-- ==== Sys2Proof/Word.lean ====
section
/-! DEFINITION. The block's bit vectors (00_scope.md R7, R8; 20_memory.md R50). Their arithmetic stands in Machine/Ops.lean. -/

namespace Sys2Proof

/-- A register, a command word or the data of a bus access: 32 bits (00_scope.md R5, WORD). -/
abbrev Word := BitVec 32

/-- One byte of the receiver stream (43_decoder.md R130). -/
abbrev Byte := BitVec 8

/-- A raw channel value: an unsigned 16-bit word (30_encoding.md R82). -/
abbrev Chan := BitVec 16

/-- A byte address of the host register space, 0x000 to 0xFFF (20_memory.md R50). -/
abbrev Addr := BitVec 12

end Sys2Proof
end

