-- ==== Sys2Proof/Syntax.lean ====
section
/-! DEFINITION. The command set as syntax: one constructor per row of the opcode map (30_encoding.md R76), and the names its operands range over. -/

namespace Sys2Proof

/-- A controlled axis, in the order of 00_scope.md R2: roll 0, pitch 1, yaw_rate 2, altitude 3. -/
inductive Axis where
  | roll | pitch | yawRate | altitude
deriving DecidableEq, Repr

/-- An actuator, in the order of 00_scope.md R2: port 0, starboard 1, aft 2, rudder 3. -/
inductive Actuator where
  | port | starboard | aft | rudder
deriving DecidableEq, Repr

/-- The SRC field of MIX (30_encoding.md R74): 0 mixes PIDOUT[0..3], 1 mixes MIXIN[0..3]. -/
inductive MixSource where
  | pidout | mixin
deriving DecidableEq, Repr

/-- The six commands of the opcode map (30_encoding.md R76). -/
inductive Instr where
  /-- NOP (42_controller.md R120). -/
  | nop
  /-- PID.UPDATE of one axis (40_pid.md R101). -/
  | pidUpdate (axis : Axis)
  /-- PID.RESET of one axis (40_pid.md R102). -/
  | pidReset (axis : Axis)
  /-- PID.RESETALL (40_pid.md R103). -/
  | pidResetAll
  /-- MIX of one command vector (41_mixer.md R111). -/
  | mix (src : MixSource)
  /-- TICK (42_controller.md R121). -/
  | tick
deriving DecidableEq, Repr

/-- The axis index of 00_scope.md R2. -/
def Axis.index : Axis → Nat
  | .roll => 0
  | .pitch => 1
  | .yawRate => 2
  | .altitude => 3

/-- The actuator index of 00_scope.md R2. -/
def Actuator.index : Actuator → Nat
  | .port => 0
  | .starboard => 1
  | .aft => 2
  | .rudder => 3

/-- All four axes, in index order. -/
def Axis.all : List Axis := [.roll, .pitch, .yawRate, .altitude]

/-- All four actuators, in index order. -/
def Actuator.all : List Actuator := [.port, .starboard, .aft, .rudder]

end Sys2Proof
end

