-- ==== Sys2Proof/WellFormed.lean ====
section
/-! DEFINITION. When a command word is legal, said field by field as 30_encoding.md R73 says it, apart from the decoder's match and mask.

A term of `Instr` has no ill-formed value: its operand types admit exactly the four axes of 00_scope.md R2 and the two sources
of 30_encoding.md R74. What can be ill-formed is the 32-bit word a host writes to CMD, so the checks are on words. -/

namespace Sys2Proof

/-- The OP field, bits 7:0 (30_encoding.md R71), as an unsigned number (00_scope.md R7). -/
def opField (w : Word) : Nat := (w.extractLsb' 0 8).toNat

/-- The AXIS field, bits 9:8 (30_encoding.md R71). -/
def axisField (w : Word) : Nat := (w.extractLsb' 8 2).toNat

/-- The SRC field, bit 10 (30_encoding.md R71). -/
def srcField (w : Word) : Bool := w.getLsbD 10

/-- The reserved field, bits 31:11 (30_encoding.md R71). -/
def reservedField (w : Word) : Nat := (w.extractLsb' 11 21).toNat

/-- R73: OP values 0x06 to 0xFF are unassigned. -/
def opAssigned (w : Word) : Bool := opField w ≤ 0x05

/-- R73: bits 31:11 are 0. -/
def reservedClear (w : Word) : Bool := reservedField w == 0

/-- R73: bit 10 is 0 unless OP = 0x04 (MIX). -/
def srcUnused (w : Word) : Bool := opField w == 0x04 || !srcField w

/-- R73: bits 9:8 are 0 unless OP is 0x01 (PID.UPDATE) or 0x02 (PID.RESET). -/
def axisUnused (w : Word) : Bool := opField w == 0x01 || opField w == 0x02 || axisField w == 0

/-- A legal command word by the field rules of 30_encoding.md R73. -/
def legalWord (w : Word) : Bool := opAssigned w && reservedClear w && srcUnused w && axisUnused w

end Sys2Proof
end

