-- ==== Sys2Proof/Decode.lean ====
section
/-! DEFINITION. The command decoder and encoder (30_encoding.md R70-R76). -/

namespace Sys2Proof

/-- Why a word is no command (30_encoding.md R73). The block itself reports every one of them as CMD_ERR. -/
inductive IllegalWord where
  /-- OP is 0x06 to 0xFF. -/
  | unassignedOp
  /-- A bit of 31:11 is set. -/
  | reservedBits
  /-- Bit 10 is set and OP is not MIX. -/
  | straySource
  /-- A bit of 9:8 is set and OP takes no AXIS. -/
  | strayAxis
deriving DecidableEq, Repr

/-- One row of the opcode map (30_encoding.md R76). -/
structure OpRow where
  mnemonic : String
  pattern : Word
  mask : Word
deriving DecidableEq, Repr

/-- 30_encoding.md R72: the word matches the row if (w AND mask) = match. -/
def OpRow.matches (r : OpRow) (w : Word) : Bool := w &&& r.mask == r.pattern

/-- R76, OP 0x00. -/
def rowNop : OpRow := { mnemonic := "NOP", pattern := 0x00000000, mask := 0xFFFFFFFF }

/-- R76, OP 0x01. -/
def rowPidUpdate : OpRow := { mnemonic := "PID.UPDATE", pattern := 0x00000001, mask := 0xFFFFFCFF }

/-- R76, OP 0x02. -/
def rowPidReset : OpRow := { mnemonic := "PID.RESET", pattern := 0x00000002, mask := 0xFFFFFCFF }

/-- R76, OP 0x03. -/
def rowPidResetAll : OpRow := { mnemonic := "PID.RESETALL", pattern := 0x00000003, mask := 0xFFFFFFFF }

/-- R76, OP 0x04. -/
def rowMix : OpRow := { mnemonic := "MIX", pattern := 0x00000004, mask := 0xFFFFFBFF }

/-- R76, OP 0x05. -/
def rowTick : OpRow := { mnemonic := "TICK", pattern := 0x00000005, mask := 0xFFFFFFFF }

/-- The opcode map (30_encoding.md R76). -/
def opcodeMap : List OpRow := [rowNop, rowPidUpdate, rowPidReset, rowPidResetAll, rowMix, rowTick]

/-- AXIS = w[9:8] selects the axis (30_encoding.md R74). -/
def axisOperand (w : Word) : Axis :=
  match axisField w with
  | 0 => .roll
  | 1 => .pitch
  | 2 => .yawRate
  | _ => .altitude

/-- SRC = w[10] selects the mixer input (30_encoding.md R74). -/
def srcOperand (w : Word) : MixSource := if srcField w then .mixin else .pidout

/-- The name of what is wrong with a word that no row matches, in the order R73 lists the cases. -/
def illegalReason (w : Word) : IllegalWord :=
  if !opAssigned w then .unassignedOp
  else if !reservedClear w then .reservedBits
  else if !srcUnused w then .straySource
  else .strayAxis

/-- The command of a word, by the rows of R76 (30_encoding.md R72); a word that no row matches is rejected by name. -/
def decode (w : Word) : Except IllegalWord Instr :=
  if rowNop.matches w then .ok .nop
  else if rowPidUpdate.matches w then .ok (.pidUpdate (axisOperand w))
  else if rowPidReset.matches w then .ok (.pidReset (axisOperand w))
  else if rowPidResetAll.matches w then .ok .pidResetAll
  else if rowMix.matches w then .ok (.mix (srcOperand w))
  else if rowTick.matches w then .ok .tick
  else .error (illegalReason w)

/-- AXIS in bits 9:8 (30_encoding.md R71). -/
def axisBits (a : Axis) : Word := BitVec.ofNat 32 (a.index * 256)

/-- SRC in bit 10 (30_encoding.md R71). -/
def srcBits : MixSource → Word
  | .pidout => 0
  | .mixin => 0x400

/-- The command word of an instruction (30_encoding.md R71, R76). -/
def encode : Instr → Word
  | .nop => rowNop.pattern
  | .pidUpdate a => rowPidUpdate.pattern ||| axisBits a
  | .pidReset a => rowPidReset.pattern ||| axisBits a
  | .pidResetAll => rowPidResetAll.pattern
  | .mix src => rowMix.pattern ||| srcBits src
  | .tick => rowTick.pattern

/-- The command word that the bits `w` of a table row of `nbits` bits stand for: bits at and above `nbits` are 0. -/
def tableWord (nbits w : Nat) : Word := BitVec.ofNat 32 (w % 2 ^ nbits)

/-- The instruction the decoder reads from the bits of an opcode-table row. -/
def decodeTableWord (nbits w : Nat) : Option Instr :=
  match decode (tableWord nbits w) with
  | .ok i => some i
  | .error _ => none

end Sys2Proof
end

