-- ==== Sys2Proof/Config.lean ====
section
/-! DEFINITION. What an implementation fixes: the fixed parameters of 00_scope.md R5, the open parameters of R6 and of
92_eei_decisions.md, and the one free value of the spec (20_memory.md R60). -/

namespace Sys2Proof.Config

/-- FRAME_LEN of 00_scope.md R5, in bytes. -/
def frameLen : Nat := 32

/-- NCH of 00_scope.md R5. -/
def channels : Nat := 14

/-- NORM_CENTER of 00_scope.md R5. -/
def normCenter : Int := 1500

/-- NORM_SPAN of 00_scope.md R5. -/
def normSpan : Int := 500

/-- EN_THRESHOLD of 00_scope.md R5: 0.6 coded 39321. -/
def enThreshold : Int := 39321

/-- 2^FRAC, FRAC = 16 (00_scope.md R5): the code of 1.0 (R10). -/
def one : Int := 65536

/-- T_PERIOD of 00_scope.md R6, in microseconds: an open parameter. No definition of the machine uses it. -/
opaque tPeriod : Nat

/-- BAUD of 00_scope.md R6, in bits per second: an open parameter. No definition of the machine uses it. -/
opaque baud : Nat

/-- LATENCY of 00_scope.md R6, in nanoseconds: an open parameter. No definition of the machine uses it. -/
opaque latency : Nat

/-- BASE of 60_exceptions.md R171, the platform's physical address of the 4 KiB window: an open parameter. -/
opaque base : Nat

/-- The platform's address of a register (60_exceptions.md R171): every address of the spec is an offset from BASE. -/
def platformAddress (a : Addr) : Nat := base + a.toNat

/-- FREE VALUE (log 2): whether the received byte goes before the host access in the n-th tie. 20_memory.md R60 fixes no
order and asks a model to admit both. -/
opaque rxFirst : Nat → Bool

end Sys2Proof.Config
end

