-- ==== Sys2Proof/Machine/State.lean ====
section
/-! DEFINITION. The state of the block as plain data (10_state.md R20-R41), the events that reach it, its reset value, and the
reasons a step can stop. -/

namespace Sys2Proof.Machine

/-- One value for each axis (00_scope.md R2). -/
structure PerAxis (α : Type) where
  roll : α
  pitch : α
  yawRate : α
  altitude : α
deriving DecidableEq, Repr

/-- One value for each actuator (00_scope.md R2). -/
structure PerActuator (α : Type) where
  port : α
  starboard : α
  aft : α
  rudder : α
deriving DecidableEq, Repr

/-- The register bank of one axis (10_state.md R25, R26, R27): the first six are RW-L configuration, `sp` and `meas` are RW
inputs, the last three are RO. -/
structure AxisBank where
  kp : Word
  ki : Word
  kd : Word
  ilim : Word
  defsp : Word
  sens : Word
  sp : Word
  meas : Word
  iterm : Word
  lasterr : Word
  pidout : Word
deriving DecidableEq, Repr

/-- The decoder's mode (10_state.md R37). -/
inductive DecMode where
  | aligned | scan0 | scan1
deriving DecidableEq, Repr

/-- The contents of CHMAP as the five channel numbers it names, each 0..13 (10_state.md R33; log 6). -/
structure ChMap where
  roll : Fin 14
  pitch : Fin 14
  yaw : Fin 14
  alt : Fin 14
  ench : Fin 14
deriving DecidableEq, Repr

/-- The six errors (60_exceptions.md R161, codes 0 to 5). -/
inductive Cause where
  | dtErr | limErr | ovf | cmdErr | busErr | lockErr
deriving DecidableEq, Repr

/-- The three decoder events (60_exceptions.md R161, codes 6 to 8). -/
inductive DecEvent where
  | frame | csum | resync
deriving DecidableEq, Repr

/-- An access of the host bus (20_memory.md R52): a 12-bit byte address, a size in bytes, and for a write 32 bits of data. -/
inductive HostAccess where
  | read (addr : Addr) (size : Nat)
  | write (addr : Addr) (size : Nat) (data : Word)
deriving DecidableEq, Repr

/-- An event of the block (00_scope.md R12, 20_memory.md R51). -/
inductive Event where
  | reset
  | host (access : HostAccess)
  | rxByte (b : Byte)
deriving DecidableEq, Repr

/-- What arrives next at the block's inputs: one event, or a host access and a received byte together, whose order
20_memory.md R60 leaves open (log 2). -/
inductive Arrival where
  | one (e : Event)
  | tie (access : HostAccess) (b : Byte)
deriving DecidableEq, Repr

/-- The state of the block and of its inputs. ID is hardwired (R40), CMD and RXDATA hold no state (R39), DEC_STATE, act and irq
are views of the fields below (R36, R30, 60_exceptions.md R165). -/
structure State where
  /-- Whether a Reset has happened (70_reset_and_hazards.md R182; log 4). -/
  seenReset : Bool
  /-- CTRL (10_state.md R21). -/
  ctrl : Word
  /-- STATUS (R22). -/
  status : Word
  /-- IRQEN (R23). -/
  irqen : Word
  /-- DT (R24). -/
  dt : Word
  /-- INPUTS (R28). -/
  inputs : Word
  /-- ERRINFO (R38). -/
  errinfo : Word
  /-- ERRCAUSE (R38). -/
  errcause : Word
  /-- The four axis banks (R25, R26, R27). -/
  axes : PerAxis AxisBank
  /-- M[i][j], row = actuator, column = axis (R29). -/
  matrix : PerActuator (PerAxis Word)
  /-- ACT[i] (R30). -/
  act : PerActuator Word
  /-- MIXIN[j] (R31). -/
  mixin : PerAxis Word
  /-- HDR (R32). -/
  hdr : Word
  /-- CHMAP (R33). -/
  chmap : ChMap
  /-- CH[k] (R34). -/
  ch : Vector Chan 14
  /-- FRAMES_OK (R35). -/
  framesOk : Word
  /-- CSUM_ERRS (R35). -/
  csumErrs : Word
  /-- RESYNCS (R35). -/
  resyncs : Word
  /-- The decoder's mode (R37). -/
  mode : DecMode
  /-- The number of bytes of the current frame already held (R37). -/
  cnt : Fin 32
  /-- The bytes of the current frame (R37). -/
  buf : Vector Byte 32
  /-- The word BusRead returned in the event just performed (20_memory.md R52); the model's own (log 3). -/
  readData : Option Word
  /-- What the inputs present next, in the total order of 20_memory.md R60; the model's own (log 1). -/
  arrivals : List Arrival
  /-- How many ties have been settled; the model's own (log 2). -/
  ties : Nat
deriving DecidableEq, Repr

/-- No event of the block ends in a fault: no error stops the block (60_exceptions.md R160). Nothing raises one; safe. -/
inductive Fault where
deriving DecidableEq, Repr

/-- Why a step is refused. -/
inductive Refusal where
  /-- Raised by an arm of `exec` whose instruction has no meaning yet. No arm raises it. Safe: the model stops. -/
  | notModelled (mnemonic : String)
  /-- Raised by `perform` for any event but Reset before the first Reset, as 70_reset_and_hazards.md R182 says. Safe: the
  spec asks the model to refuse such a run. -/
  | beforeFirstReset
deriving DecidableEq, Repr

/-- An axis bank after Reset (10_state.md R41). -/
def AxisBank.reset : AxisBank :=
  { kp := 0, ki := 0, kd := 0, ilim := 0, defsp := 0, sens := 0, sp := 0, meas := 0, iterm := 0, lasterr := 0, pidout := 0 }

/-- CHMAP after Reset, 0x00042310 (10_state.md R33). -/
def ChMap.reset : ChMap := { roll := 0, pitch := 1, yaw := 3, alt := 2, ench := 4 }

/-- The state right after Reset (10_state.md R41); the last three fields are the model's own (logs 1, 2, 3). -/
def State.reset : State :=
  { seenReset := true
    ctrl := 0x00000004
    status := 0
    irqen := 0
    dt := 0
    inputs := 0
    errinfo := 0
    errcause := 0
    axes := { roll := AxisBank.reset, pitch := AxisBank.reset, yawRate := AxisBank.reset, altitude := AxisBank.reset }
    matrix :=
      { port := { roll := 0, pitch := 0, yawRate := 0, altitude := 0 }
        starboard := { roll := 0, pitch := 0, yawRate := 0, altitude := 0 }
        aft := { roll := 0, pitch := 0, yawRate := 0, altitude := 0 }
        rudder := { roll := 0, pitch := 0, yawRate := 0, altitude := 0 } }
    act := { port := 0, starboard := 0, aft := 0, rudder := 0 }
    mixin := { roll := 0, pitch := 0, yawRate := 0, altitude := 0 }
    hdr := 0x00004020
    chmap := ChMap.reset
    ch := Vector.replicate 14 0
    framesOk := 0
    csumErrs := 0
    resyncs := 0
    mode := .aligned
    cnt := 0
    buf := Vector.replicate 32 0
    readData := none
    arrivals := []
    ties := 0 }

end Sys2Proof.Machine
end

