-- ==== Sys2Proof/Machine/Ops.lean ====
section
/-! DEFINITION. The shared operations: the arithmetic primitives of 00_scope.md R8 and R9, access to the per-axis and
per-actuator copies, raising an error (60_exceptions.md R162) and acknowledging one (R167), and Reset (70_reset_and_hazards.md R180). -/

namespace Sys2Proof.Machine

/-- A register read as a signed number (00_scope.md R8). -/
abbrev s32 (w : Word) : Int := w.toInt

/-- The register contents of an integer that fits 32 bits (00_scope.md R8). -/
def ofS32 (v : Int) : Word := BitVec.ofInt 32 v

/-- The least integer a 32-bit register holds (00_scope.md R8). -/
def minS32 : Int := -2147483648

/-- The greatest integer a 32-bit register holds (00_scope.md R8). -/
def maxS32 : Int := 2147483647

/-- floor_div (00_scope.md R9): rounds toward minus infinity. -/
def floorDiv (n d : Int) : Int := n.fdiv d

/-- trunc_div (00_scope.md R9): rounds toward zero. -/
def truncDiv (n d : Int) : Int := n.tdiv d

/-- sat32 (00_scope.md R9). -/
def sat32 (v : Int) : Int := if v < minS32 then minS32 else if maxS32 < v then maxS32 else v

/-- clamp (00_scope.md R9). -/
def clamp (v lo hi : Int) : Int := max lo (min v hi)

/-- fxmul (00_scope.md R9): the Q16.16 product, rounded toward minus infinity. -/
def fxmul (a b : Int) : Int := floorDiv (a * b) Config.one

/-- fxdiv (00_scope.md R9): the Q16.16 quotient, rounded toward zero. -/
def fxdiv (a b : Int) : Int := truncDiv (a * Config.one) b

/-- The copy for one axis (00_scope.md R11). -/
def PerAxis.get {α : Type} (p : PerAxis α) : Axis → α
  | .roll => p.roll
  | .pitch => p.pitch
  | .yawRate => p.yawRate
  | .altitude => p.altitude

/-- The copies with one axis's replaced. -/
def PerAxis.set {α : Type} (p : PerAxis α) (a : Axis) (v : α) : PerAxis α :=
  match a with
  | .roll => { p with roll := v }
  | .pitch => { p with pitch := v }
  | .yawRate => { p with yawRate := v }
  | .altitude => { p with altitude := v }

/-- One value computed for each axis. -/
def PerAxis.gen {α : Type} (f : Axis → α) : PerAxis α :=
  { roll := f .roll, pitch := f .pitch, yawRate := f .yawRate, altitude := f .altitude }

/-- The copy for one actuator (00_scope.md R11). -/
def PerActuator.get {α : Type} (p : PerActuator α) : Actuator → α
  | .port => p.port
  | .starboard => p.starboard
  | .aft => p.aft
  | .rudder => p.rudder

/-- The copies with one actuator's replaced. -/
def PerActuator.set {α : Type} (p : PerActuator α) (i : Actuator) (v : α) : PerActuator α :=
  match i with
  | .port => { p with port := v }
  | .starboard => { p with starboard := v }
  | .aft => { p with aft := v }
  | .rudder => { p with rudder := v }

/-- One value computed for each actuator. -/
def PerActuator.gen {α : Type} (f : Actuator → α) : PerActuator α :=
  { port := f .port, starboard := f .starboard, aft := f .aft, rudder := f .rudder }

/-- The register bank of an axis (10_state.md R25-R27). -/
def State.bank (s : State) (a : Axis) : AxisBank := s.axes.get a

/-- The state with one axis's bank replaced. -/
def State.setBank (s : State) (a : Axis) (b : AxisBank) : State := { s with axes := s.axes.set a b }

/-- The state with every axis's bank replaced. -/
def State.mapBanks (s : State) (f : Axis → AxisBank) : State := { s with axes := PerAxis.gen f }

/-- The cause code of an error, its STATUS bit index (60_exceptions.md R161). -/
def Cause.code : Cause → Nat
  | .dtErr => 0
  | .limErr => 1
  | .ovf => 2
  | .cmdErr => 3
  | .busErr => 4
  | .lockErr => 5

/-- The STATUS bit index of a decoder event (60_exceptions.md R161). -/
def DecEvent.code : DecEvent → Nat
  | .frame => 6
  | .csum => 7
  | .resync => 8

/-- The word whose one set bit is bit `n`. -/
def bitWord (n : Nat) : Word := BitVec.ofNat 32 (2 ^ n)

/-- Raising an error, the block's way of taking an exception (60_exceptions.md R162): the STATUS bit is set, ERRINFO takes the
info word and ERRCAUSE the code with VALID. Nothing else changes and no control is transferred (R166). -/
def raiseError (c : Cause) (info : Word) (s : State) : State :=
  { s with
    status := s.status ||| bitWord c.code
    errinfo := info
    errcause := bitWord 31 ||| BitVec.ofNat 32 c.code }

/-- Raising an error when a condition holds. -/
def raiseWhen (p : Bool) (c : Cause) (info : Word) (s : State) : State :=
  if p then raiseError c info s else s

/-- A decoder event sets its STATUS bit alone (60_exceptions.md R162). -/
def signalEvent (e : DecEvent) (s : State) : State := { s with status := s.status ||| bitWord e.code }

/-- The STATUS and IRQEN bits that exist, 8:0 (10_state.md R22, R23). -/
def statusMask : Word := 0x000001FF

/-- Acknowledging causes, the block's counterpart of a return from an exception (60_exceptions.md R167): the W1C write of
STATUS (20_memory.md R55). ERRINFO and ERRCAUSE keep the last error. -/
def acknowledge (w : Word) (s : State) : State := { s with status := s.status &&& ~~~(w &&& statusMask) }

/-- Reset (70_reset_and_hazards.md R180): every piece of the block's state takes its reset value. What the inputs present
next is outside the block and stays (log 5). -/
def doReset (s : State) : State := { State.reset with arrivals := s.arrivals, ties := s.ties }

/-- A counter's next value, modulo 2^32 (10_state.md R35). -/
def countUp (n : Word) : Word := n + 1

end Sys2Proof.Machine
end

