-- ==== Sys2Proof/Machine/Flags.lean ====
section
/-! DEFINITION. The register bits and the conditions that set STATUS bits: CTRL, INPUTS and HDR fields (10_state.md R21, R28,
R32), saturation (60_exceptions.md R163), the precondition errors (40_pid.md R100) and the interrupt level (60_exceptions.md R165). -/

namespace Sys2Proof.Machine

/-- CTRL.LOCK (10_state.md R21). -/
def State.lock (s : State) : Bool := s.ctrl.getLsbD 0

/-- CTRL.DUPD (10_state.md R21). -/
def State.dupd (s : State) : Bool := s.ctrl.getLsbD 1

/-- CTRL.HDR_EN (10_state.md R21). -/
def State.hdrEn (s : State) : Bool := s.ctrl.getLsbD 2

/-- CTRL.BE (10_state.md R21). -/
def State.be (s : State) : Bool := s.ctrl.getLsbD 3

/-- INPUTS.EN (10_state.md R28). -/
def State.en (s : State) : Bool := s.inputs.getLsbD 0

/-- HDR.H0, bits 7:0 (10_state.md R32). -/
def State.h0 (s : State) : Byte := s.hdr.extractLsb' 0 8

/-- HDR.H1, bits 15:8 (10_state.md R32). -/
def State.h1 (s : State) : Byte := s.hdr.extractLsb' 8 8

/-- The INPUTS word whose EN bit is `en` (10_state.md R28: the other bits are reserved). -/
def inputsWord (en : Bool) : Word := if en then 1 else 0

/-- Whether a saturation point changes its argument, the condition of OVF (00_scope.md R9, 60_exceptions.md R163). -/
def saturates (v : Int) : Bool := sat32 v != v

/-- DT_ERR's condition: s32(DT) <= 0 (40_pid.md R100). -/
def dtBad (s : State) : Bool := s32 s.dt ≤ 0

/-- LIM_ERR's condition: some used axis has a negative ILIM (40_pid.md R100). -/
def limBad (s : State) (used : List Axis) : Bool := used.any fun a => s32 (s.bank a).ilim < 0

/-- The precondition check passes (40_pid.md R100). -/
def pidCheckPasses (s : State) (used : List Axis) : Bool := !dtBad s && !limBad s used

/-- The error records of a failed check: DT_ERR first, then LIM_ERR (40_pid.md R100, 60_exceptions.md R164). -/
def pidCheckErrors (w : Word) (used : List Axis) (s : State) : State :=
  raiseWhen (limBad s used) .limErr w (raiseWhen (dtBad s) .dtErr w s)

/-- The irq output level (60_exceptions.md R165). -/
def State.irq (s : State) : Bool := (s.status &&& s.irqen) &&& statusMask != 0

/-- The act output port shows ACT at all times (20_memory.md R51, 10_state.md R30). -/
def State.actPort (s : State) (i : Actuator) : Int := s32 (s.act.get i)

end Sys2Proof.Machine
end

