-- ==== Sys2Proof/Machine/Operands.lean ====
section
/-! DEFINITION. The operand forms: the register map (20_memory.md R53) with its access types (10_state.md, opening), reading and
writing a register (R54, R55, R66), the mixer's command vector (30_encoding.md R74) and the channel words of a frame (R82, R84). -/

namespace Sys2Proof.Machine

/-- A register of one axis bank (20_memory.md R53). -/
inductive AxisReg where
  | kp | ki | kd | ilim | defsp | sens | sp | meas | iterm | lasterr | pidout
deriving DecidableEq, Repr

/-- A register of the map (20_memory.md R53). -/
inductive Reg where
  | id | ctrl | status | irqen | cmd | dt | inputs | errinfo | errcause
  | axis (a : Axis) (r : AxisReg)
  | m (i : Actuator) (j : Axis)
  | act (i : Actuator)
  | mixin (j : Axis)
  | hdr | chmap | rxdata | decState | framesOk | csumErrs | resyncs
  | ch (k : Fin 14)
deriving DecidableEq, Repr

/-- The access types of 10_state.md. -/
inductive Access where
  | ro | rw | rwl | wo | w1c
deriving DecidableEq, Repr

/-- The axis of two index bits (00_scope.md R2). -/
def axisAt (n : Nat) : Axis :=
  match n % 4 with
  | 0 => .roll
  | 1 => .pitch
  | 2 => .yawRate
  | _ => .altitude

/-- The actuator of two index bits (00_scope.md R2). -/
def actuatorAt (n : Nat) : Actuator :=
  match n % 4 with
  | 0 => .port
  | 1 => .starboard
  | 2 => .aft
  | _ => .rudder

/-- The bank register at byte offset 4*n of its bank (20_memory.md R53). -/
def axisRegAt : Nat → Option AxisReg
  | 0 => some .kp
  | 1 => some .ki
  | 2 => some .kd
  | 3 => some .ilim
  | 4 => some .defsp
  | 5 => some .sens
  | 6 => some .sp
  | 7 => some .meas
  | 8 => some .iterm
  | 9 => some .lasterr
  | 10 => some .pidout
  | _ => none

/-- The register at byte address 4*n below 0x100 (20_memory.md R53). -/
def controlRegAt : Nat → Option Reg
  | 0 => some .id
  | 1 => some .ctrl
  | 2 => some .status
  | 3 => some .irqen
  | 4 => some .cmd
  | 5 => some .dt
  | 6 => some .inputs
  | 7 => some .errinfo
  | 8 => some .errcause
  | _ => none

/-- The register at byte address 0x300 + 4*n (20_memory.md R53). -/
def receiverRegAt : Nat → Option Reg
  | 0 => some .hdr
  | 1 => some .chmap
  | 2 => some .rxdata
  | 3 => some .decState
  | 4 => some .framesOk
  | 5 => some .csumErrs
  | 6 => some .resyncs
  | _ => none

/-- The register whose word index (byte address / 4) is `n` (20_memory.md R53); every other address is unmapped. -/
def regAtWord (n : Nat) : Option Reg :=
  if n < 0x40 then controlRegAt n
  else if n < 0x80 then (axisRegAt (n % 16)).map (Reg.axis (axisAt ((n - 0x40) / 16)))
  else if n < 0x90 then some (.m (actuatorAt ((n - 0x80) / 4)) (axisAt (n - 0x80)))
  else if n < 0x94 then some (.act (actuatorAt (n - 0x90)))
  else if n < 0x98 then some (.mixin (axisAt (n - 0x94)))
  else if n < 0xC0 then none
  else if n < 0xD0 then receiverRegAt (n - 0xC0)
  else if h : n - 0xD0 < 14 then some (.ch ⟨n - 0xD0, h⟩)
  else none

/-- The register an access reaches if it is legal: size 4, a 4-aligned address, mapped (20_memory.md R52, R58). -/
def legalReg (addr : Addr) (size : Nat) : Option Reg :=
  if size = 4 ∧ addr.toNat % 4 = 0 then regAtWord (addr.toNat / 4) else none

/-- The place of a bank register within its bank, in words (20_memory.md R53). -/
def AxisReg.offset : AxisReg → Nat
  | .kp => 0x00
  | .ki => 0x04
  | .kd => 0x08
  | .ilim => 0x0C
  | .defsp => 0x10
  | .sens => 0x14
  | .sp => 0x18
  | .meas => 0x1C
  | .iterm => 0x20
  | .lasterr => 0x24
  | .pidout => 0x28

/-- The byte address of a register, as the table of 20_memory.md R53 gives it. -/
def Reg.address : Reg → Nat
  | .id => 0x000
  | .ctrl => 0x004
  | .status => 0x008
  | .irqen => 0x00C
  | .cmd => 0x010
  | .dt => 0x014
  | .inputs => 0x018
  | .errinfo => 0x01C
  | .errcause => 0x020
  | .axis a r => 0x100 + 0x40 * a.index + r.offset
  | .m i j => 0x200 + 4 * (4 * i.index + j.index)
  | .act i => 0x240 + 4 * i.index
  | .mixin j => 0x250 + 4 * j.index
  | .hdr => 0x300
  | .chmap => 0x304
  | .rxdata => 0x308
  | .decState => 0x30C
  | .framesOk => 0x310
  | .csumErrs => 0x314
  | .resyncs => 0x318
  | .ch k => 0x340 + 4 * k.val

/-- The access type of a bank register (10_state.md R25, R26, R27). -/
def AxisReg.access : AxisReg → Access
  | .kp | .ki | .kd | .ilim | .defsp | .sens => .rwl
  | .sp | .meas => .rw
  | .iterm | .lasterr | .pidout => .ro

/-- The access type of a register (20_memory.md R53). -/
def Reg.access : Reg → Access
  | .id | .errinfo | .errcause | .act _ | .decState | .framesOk | .csumErrs | .resyncs | .ch _ => .ro
  | .ctrl | .dt | .m _ _ | .hdr | .chmap => .rwl
  | .status => .w1c
  | .irqen | .inputs | .mixin _ => .rw
  | .cmd | .rxdata => .wo
  | .axis _ r => r.access

/-- The identity word, "AUK1" (10_state.md R40). -/
def idWord : Word := 0x41554B31

/-- The MODE code (10_state.md R36). -/
def DecMode.code : DecMode → Nat
  | .aligned => 0
  | .scan0 => 1
  | .scan1 => 2

/-- DEC_STATE shows mode in bits 1:0 and cnt in bits 12:8 (10_state.md R36). -/
def decStateWord (s : State) : Word := BitVec.ofNat 32 (s.mode.code + 256 * s.cnt.val)

/-- CHMAP as the word the host reads (10_state.md R33). -/
def ChMap.word (c : ChMap) : Word :=
  BitVec.ofNat 32 (c.roll.val + 0x10 * c.pitch.val + 0x100 * c.yaw.val + 0x1000 * c.alt.val + 0x10000 * c.ench.val)

/-- The channel number of the CHMAP field at bit `lo`, if it is one (10_state.md R33, 20_memory.md R66). -/
def chmapField (w : Word) (lo : Nat) : Option (Fin 14) :=
  if h : (w.extractLsb' lo 4).toNat < 14 then some ⟨(w.extractLsb' lo 4).toNat, h⟩ else none

/-- The contents a CHMAP write stores, unless some field of the word is above 13 (20_memory.md R66). -/
def ChMap.ofWord (w : Word) : Option ChMap :=
  match chmapField w 0, chmapField w 4, chmapField w 8, chmapField w 12, chmapField w 16 with
  | some r, some p, some y, some a, some e => some { roll := r, pitch := p, yaw := y, alt := a, ench := e }
  | _, _, _, _, _ => none

/-- The value of a bank register. -/
def AxisBank.read (b : AxisBank) : AxisReg → Word
  | .kp => b.kp
  | .ki => b.ki
  | .kd => b.kd
  | .ilim => b.ilim
  | .defsp => b.defsp
  | .sens => b.sens
  | .sp => b.sp
  | .meas => b.meas
  | .iterm => b.iterm
  | .lasterr => b.lasterr
  | .pidout => b.pidout

/-- What a legal BusRead of the register returns (20_memory.md R54): its current value; WO registers read 0. -/
def State.read (s : State) : Reg → Word
  | .id => idWord
  | .ctrl => s.ctrl
  | .status => s.status
  | .irqen => s.irqen
  | .cmd => 0
  | .dt => s.dt
  | .inputs => s.inputs
  | .errinfo => s.errinfo
  | .errcause => s.errcause
  | .axis a r => (s.bank a).read r
  | .m i j => (s.matrix.get i).get j
  | .act i => s.act.get i
  | .mixin j => s.mixin.get j
  | .hdr => s.hdr
  | .chmap => s.chmap.word
  | .rxdata => 0
  | .decState => decStateWord s
  | .framesOk => s.framesOk
  | .csumErrs => s.csumErrs
  | .resyncs => s.resyncs
  | .ch k => (s.ch[k]).setWidth 32

/-- The bits of CTRL that exist, 3:0 (10_state.md R21). -/
def ctrlMask : Word := 0x0000000F

/-- The bits of INPUTS that exist, bit 0 (10_state.md R28). -/
def inputsMask : Word := 0x00000001

/-- The bits of HDR that exist, 15:0 (10_state.md R32). -/
def hdrMask : Word := 0x0000FFFF

/-- The bits of CHMAP that exist, 19:0 (10_state.md R33). -/
def chmapMask : Word := 0x000FFFFF

/-- The bits of ERRCAUSE that exist: VALID and the code (10_state.md R38). -/
def errcauseMask : Word := 0x8000000F

/-- The bits of DEC_STATE that exist: CNT and MODE (10_state.md R36). -/
def decStateMask : Word := 0x00001F03

/-- The bits of CH[k] that exist, 15:0 (10_state.md R34). -/
def chMask : Word := 0x0000FFFF

/-- The bits of a register that exist; the others are reserved, read as 0, and a host write forces them to 0 (20_memory.md
R54, R55). -/
def Reg.mask : Reg → Word
  | .ctrl => ctrlMask
  | .status | .irqen => statusMask
  | .errcause => errcauseMask
  | .decState => decStateMask
  | .ch _ => chMask
  | .inputs => inputsMask
  | .hdr => hdrMask
  | .chmap => chmapMask
  | _ => 0xFFFFFFFF

/-- A bank register stored by a host write; the RO registers of the bank are not written this way. -/
def AxisBank.write (b : AxisBank) (r : AxisReg) (w : Word) : AxisBank :=
  match r with
  | .kp => { b with kp := w }
  | .ki => { b with ki := w }
  | .kd => { b with kd := w }
  | .ilim => { b with ilim := w }
  | .defsp => { b with defsp := w }
  | .sens => { b with sens := w }
  | .sp => { b with sp := w }
  | .meas => { b with meas := w }
  | .iterm | .lasterr | .pidout => b

/-- reg(addr) <- w with reserved bits forced to 0 (20_memory.md R55), for the RW and RW-L registers but CHMAP, whose fields
are checked first (R66). The registers of the other access types are not stored to. -/
def State.store (s : State) (r : Reg) (w : Word) : State :=
  match r with
  | .ctrl => { s with ctrl := w &&& ctrlMask }
  | .irqen => { s with irqen := w &&& statusMask }
  | .dt => { s with dt := w }
  | .inputs => { s with inputs := w &&& inputsMask }
  | .axis a x => s.setBank a ((s.bank a).write x w)
  | .m i j => { s with matrix := s.matrix.set i ((s.matrix.get i).set j w) }
  | .mixin j => { s with mixin := s.mixin.set j w }
  | .hdr => { s with hdr := w &&& hdrMask }
  | .id | .status | .cmd | .errinfo | .errcause | .act _ | .chmap | .rxdata | .decState | .framesOk | .csumErrs
  | .resyncs | .ch _ => s

/-- The byte address of an access as a 32-bit ERRINFO word (60_exceptions.md R161). -/
def addrInfo (addr : Addr) : Word := addr.setWidth 32

/-- The mixer's command vector (30_encoding.md R74): PIDOUT[0..3] or MIXIN[0..3], read as s32. -/
def mixOperand (src : MixSource) (s : State) : PerAxis Int :=
  match src with
  | .pidout => PerAxis.gen fun a => s32 (s.bank a).pidout
  | .mixin => PerAxis.gen fun a => s32 (s.mixin.get a)

/-- A 16-bit word of a frame from its two bytes in arrival order (30_encoding.md R82, R84): big-endian if `be`, else
little-endian. -/
def frameWord (be : Bool) (first second : Byte) : Chan := if be then first ++ second else second ++ first

/-- Channel word k, frame bytes 2+2k and 3+2k (30_encoding.md R82). -/
def channelWord (be : Bool) (buf : Vector Byte 32) (k : Fin 14) : Chan :=
  frameWord be (buf[2 + 2 * k.val]) (buf[3 + 2 * k.val])

/-- All fourteen channel words of a frame (30_encoding.md R82). -/
def channelWords (be : Bool) (buf : Vector Byte 32) : Vector Chan 14 := Vector.ofFn (channelWord be buf)

/-- The sum of bytes 0..29, modulo 65536 (30_encoding.md R84). -/
def frameSum (buf : Vector Byte 32) : Nat := ((buf.toList.take 30).map BitVec.toNat).sum % 65536

/-- The received checksum word, bytes 30 and 31 (30_encoding.md R84). -/
def receivedChecksum (be : Bool) (buf : Vector Byte 32) : Nat := (frameWord be buf[30] buf[31]).toNat

/-- checksum_ok (30_encoding.md R84). -/
def checksumOk (be : Bool) (buf : Vector Byte 32) : Bool := receivedChecksum be buf == 0xFFFF - frameSum buf

end Sys2Proof.Machine
end

