-- ==== Sys2Proof/Machine/Mixer.lean ====
section
/-! DEFINITION. The control-allocation mixer (41_mixer.md R110) and the command MIX (R111). -/

namespace Sys2Proof.Machine

/-- The exact product of one matrix row with a command vector (41_mixer.md R110). -/
def rowDot (row : PerAxis Word) (v : PerAxis Int) : Int :=
  s32 row.roll * v.roll + s32 row.pitch * v.pitch + s32 row.yawRate * v.yawRate + s32 row.altitude * v.altitude

/-- The row product after the one rounding, the argument of the row's sat32 (41_mixer.md R110). -/
def rowRounded (m : PerActuator (PerAxis Word)) (v : PerAxis Int) (i : Actuator) : Int :=
  floorDiv (rowDot (m.get i) v) Config.one

/-- mixvec(v) (41_mixer.md R110). -/
def mixvec (m : PerActuator (PerAxis Word)) (v : PerAxis Int) (i : Actuator) : Int := sat32 (rowRounded m v i)

/-- Whether one of the four sat32 changes its argument (41_mixer.md R111). -/
def mixSaturates (m : PerActuator (PerAxis Word)) (v : PerAxis Int) : Bool :=
  Actuator.all.any fun i => saturates (rowRounded m v i)

/-- ACT[0..3] <- mixvec(v) (41_mixer.md R111). -/
def State.setAct (s : State) (f : Actuator → Int) : State := { s with act := PerActuator.gen fun i => ofS32 (f i) }

/-- MIX (41_mixer.md R111). -/
def execMix (src : MixSource) (s : State) : Host.Outcome State Fault Refusal :=
  let v := mixOperand src s
  .next (raiseWhen (mixSaturates s.matrix v) .ovf (encode (.mix src)) (s.setAct (mixvec s.matrix v)))

end Sys2Proof.Machine
end

