-- ==== Sys2Proof/Machine/Pid.lean ====
section
/-! DEFINITION. The PID regulator: the control law (40_pid.md R101, R104) and the commands PID.UPDATE, PID.RESET and
PID.RESETALL (R101, R102, R103). -/

namespace Sys2Proof.Machine

/-- DEFSP[a] + SP[a], the argument of saturation point 1 (40_pid.md R101). -/
def setpointSum (b : AxisBank) : Int := s32 b.defsp + s32 b.sp

/-- sp, the absolute setpoint (40_pid.md R101). -/
def pidSetpoint (b : AxisBank) : Int := sat32 (setpointSum b)

/-- sp - MEAS[a], the argument of saturation point 2 (40_pid.md R101). -/
def errorDifference (b : AxisBank) : Int := pidSetpoint b - s32 b.meas

/-- err (40_pid.md R101). -/
def pidError (b : AxisBank) : Int := sat32 (errorDifference b)

/-- p (40_pid.md R101). -/
def pidP (b : AxisBank) : Int := fxmul (pidError b) (s32 b.kp)

/-- it, the clamped integrator (40_pid.md R101); `dt` is s32(DT). -/
def pidIntegral (dt : Int) (b : AxisBank) : Int :=
  clamp (s32 b.iterm + fxmul dt (pidError b)) (-s32 b.ilim) (s32 b.ilim)

/-- iout (40_pid.md R101). -/
def pidIout (dt : Int) (b : AxisBank) : Int := fxmul (pidIntegral dt b) (s32 b.ki)

/-- q, (last_error - error) / dt, from the old LASTERR[a] (40_pid.md R101, R104). -/
def pidQuotient (dt : Int) (b : AxisBank) : Int := fxdiv (s32 b.lasterr - pidError b) dt

/-- dout (40_pid.md R101). -/
def pidDout (dt : Int) (b : AxisBank) : Int := fxmul (pidQuotient dt b) (s32 b.kd)

/-- p + iout + dout, the argument of saturation point 3 (40_pid.md R101). -/
def commandSum (dt : Int) (b : AxisBank) : Int := pidP b + pidIout dt b + pidDout dt b

/-- out (40_pid.md R101). -/
def pidCommand (dt : Int) (b : AxisBank) : Int := sat32 (commandSum dt b)

/-- Whether one of the three saturation points changes its argument (40_pid.md R101). -/
def pidSaturates (dt : Int) (b : AxisBank) : Bool :=
  saturates (setpointSum b) || saturates (errorDifference b) || saturates (commandSum dt b)

/-- The writes of one update: ITERM, PIDOUT, and LASTERR when DUPD = 1 (40_pid.md R101, R104). -/
def updatedBank (dupd : Bool) (dt : Int) (b : AxisBank) : AxisBank :=
  { b with
    iterm := ofS32 (pidIntegral dt b)
    lasterr := if dupd then ofS32 (pidError b) else b.lasterr
    pidout := ofS32 (pidCommand dt b) }

/-- ITERM[a] <- 0 (40_pid.md R102). -/
def clearedBank (b : AxisBank) : AxisBank := { b with iterm := 0 }

/-- PID.UPDATE (40_pid.md R101). -/
def execPidUpdate (a : Axis) (s : State) : Host.Outcome State Fault Refusal :=
  let w := encode (.pidUpdate a)
  if pidCheckPasses s [a] then
    .next (raiseWhen (pidSaturates (s32 s.dt) (s.bank a)) .ovf w
      (s.setBank a (updatedBank s.dupd (s32 s.dt) (s.bank a))))
  else .next (pidCheckErrors w [a] s)

/-- PID.RESET (40_pid.md R102). -/
def execPidReset (a : Axis) (s : State) : Host.Outcome State Fault Refusal :=
  .next (s.setBank a (clearedBank (s.bank a)))

/-- PID.RESETALL (40_pid.md R103). -/
def execPidResetAll (s : State) : Host.Outcome State Fault Refusal :=
  .next (s.mapBanks fun a => clearedBank (s.bank a))

end Sys2Proof.Machine
end

