-- ==== Sys2Proof/Machine/Controller.lean ====
section
/-! DEFINITION. The controller tick and the no-operation: TICK (42_controller.md R121) and NOP (R120). -/

namespace Sys2Proof.Machine

/-- NOP (42_controller.md R120): nothing. -/
def execNop (s : State) : Host.Outcome State Fault Refusal := .next s

/-- out[0..3] of the four axes, all from the state before the tick (42_controller.md R121). -/
def tickOutputs (s : State) : PerAxis Int := PerAxis.gen fun a => pidCommand (s32 s.dt) (s.bank a)

/-- Whether a saturation point of an axis or a sat32 of the mixer changes its argument (42_controller.md R121). -/
def tickSaturates (s : State) : Bool :=
  (Axis.all.any fun a => pidSaturates (s32 s.dt) (s.bank a)) || mixSaturates s.matrix (tickOutputs s)

/-- An enabled tick whose check passes (42_controller.md R121). -/
def tickUpdate (w : Word) (s : State) : State :=
  raiseWhen (tickSaturates s) .ovf w
    ((s.mapBanks fun a => updatedBank s.dupd (s32 s.dt) (s.bank a)).setAct (mixvec s.matrix (tickOutputs s)))

/-- A disabled tick: ACT and ITERM become 0, nothing is checked (42_controller.md R121). -/
def tickDisabled (s : State) : State :=
  (s.mapBanks fun a => clearedBank (s.bank a)).setAct fun _ => 0

/-- TICK (42_controller.md R121). -/
def execTick (s : State) : Host.Outcome State Fault Refusal :=
  let w := encode .tick
  if s.en then
    if pidCheckPasses s Axis.all then .next (tickUpdate w s) else .next (pidCheckErrors w Axis.all s)
  else .next (tickDisabled s)

end Sys2Proof.Machine
end

