-- ==== Sys2Proof/Machine/Dispatch.lean ====
section
/-! DEFINITION. One arm per command of the opcode map (30_encoding.md R72, R76). -/

namespace Sys2Proof.Machine

/-- Performing a command (30_encoding.md R72). -/
def exec (i : Instr) (s : State) : Host.Outcome State Fault Refusal :=
  match i with
  | .nop => Sys2Proof.Machine.execNop s
  | .pidUpdate a => Sys2Proof.Machine.execPidUpdate a s
  | .pidReset a => Sys2Proof.Machine.execPidReset a s
  | .pidResetAll => Sys2Proof.Machine.execPidResetAll s
  | .mix src => Sys2Proof.Machine.execMix src s
  | .tick => Sys2Proof.Machine.execTick s

end Sys2Proof.Machine
end

