-- ==== Sys2Proof/Machine/Receiver.lean ====
section
/-! DEFINITION. The receiver-frame decoder (43_decoder.md R130-R142). -/

namespace Sys2Proof.Machine

/-- norm(c) (43_decoder.md R138). -/
def normalise (c : Chan) : Int := truncDiv (((c.toNat : Int) - Config.normCenter) * Config.one) Config.normSpan

/-- The enable threshold (43_decoder.md R139). -/
def enables (c : Chan) : Bool := Config.enThreshold < normalise c

/-- The channel designated for an axis (43_decoder.md R141). -/
def ChMap.channel (m : ChMap) : Axis → Fin 14
  | .roll => m.roll
  | .pitch => m.pitch
  | .yawRate => m.yaw
  | .altitude => m.alt

/-- The scaled setpoint of an axis before its sat32 (43_decoder.md R140). -/
def scaledSetpoint (s : State) (chs : Vector Chan 14) (a : Axis) : Int :=
  fxmul (normalise chs[s.chmap.channel a]) (s32 (s.bank a).sens)

/-- SP[a] of a published frame (43_decoder.md R136). -/
def publishedBank (s : State) (chs : Vector Chan 14) (a : Axis) : AxisBank :=
  { s.bank a with sp := ofS32 (sat32 (scaledSetpoint s chs a)) }

/-- Whether one of the four sat32 of a publication changes its argument (43_decoder.md R136). -/
def publishSaturates (s : State) (chs : Vector Chan 14) : Bool := Axis.all.any fun a => saturates (scaledSetpoint s chs a)

/-- The register writes of a publication (43_decoder.md R136): CH, SP, EN and FRAMES_OK. -/
def publishWrites (chs : Vector Chan 14) (s : State) : State :=
  { s with
    axes := PerAxis.gen (publishedBank s chs)
    ch := chs
    inputs := inputsWord (enables chs[s.chmap.ench])
    framesOk := countUp s.framesOk }

/-- publish(b) (43_decoder.md R136). -/
def publish (b : Byte) (s : State) : State :=
  let chs := channelWords s.be s.buf
  raiseWhen (publishSaturates s chs) .ovf (b.setWidth 32) (signalEvent .frame (publishWrites chs s))

/-- header_mismatch() (43_decoder.md R133). -/
def headerMismatch (s : State) : State :=
  signalEvent .resync { s with mode := .scan0, resyncs := countUp s.resyncs }

/-- checksum_fail() (43_decoder.md R135). -/
def checksumFail (s : State) : State := signalEvent .csum { s with csumErrs := countUp s.csumErrs }

/-- The first branch of frame_end: a header is defined and does not match (43_decoder.md R132). -/
def headerBad (s : State) : Bool := s.hdrEn && (s.buf[0] != s.h0 || s.buf[1] != s.h1)

/-- frame_end(b) (43_decoder.md R132). -/
def frameEnd (b : Byte) (s : State) : State :=
  if headerBad s then headerMismatch s
  else if !checksumOk s.be s.buf then checksumFail s
  else publish b s

/-- buf[cnt] <- b, and cnt counts on modulo 32 (43_decoder.md R131). -/
def storeByte (b : Byte) (s : State) : State := { s with buf := s.buf.set s.cnt b, cnt := s.cnt + 1 }

/-- The header just found becomes bytes 0 and 1 of a new frame (43_decoder.md R131, R134). -/
def startFrame (s : State) : State :=
  { s with buf := (s.buf.set 0 s.h0).set 1 s.h1, cnt := 2, mode := .aligned }

/-- The byte step (43_decoder.md R131). -/
def rxByte (b : Byte) (s : State) : State :=
  match s.mode with
  | .aligned => if s.cnt = 31 then frameEnd b (storeByte b s) else storeByte b s
  | .scan0 => if b = s.h0 then { s with mode := .scan1 } else s
  | .scan1 =>
    if b = s.h1 then startFrame s
    else if b = s.h0 then s
    else { s with mode := .scan0 }

end Sys2Proof.Machine
end

