-- ==== Sys2Proof/Machine/Bus.lean ====
section
/-! DEFINITION. The events: the host bus (20_memory.md R52-R55, R66), a command write (30_encoding.md R72), a received byte
(43_decoder.md R130), Reset (70_reset_and_hazards.md R180, R182), and how an arrival becomes the next event (20_memory.md R60). -/

namespace Sys2Proof.Machine

/-- Performing a command word (30_encoding.md R72, R73). -/
def performCommand (w : Word) (s : State) : Host.Outcome State Fault Refusal :=
  match decode w with
  | .ok i => exec i s
  | .error _ => .next (raiseError .cmdErr w s)

/-- BusRead (20_memory.md R52, R54): an illegal access raises BUS_ERR and returns 0. -/
def busRead (addr : Addr) (size : Nat) (s : State) : State :=
  match legalReg addr size with
  | some r => { s with readData := some (s.read r) }
  | none => raiseError .busErr (addrInfo addr) { s with readData := some 0 }

/-- A write to an RW-L register (20_memory.md R55, R66). -/
def writeLockable (addr : Addr) (r : Reg) (w : Word) (s : State) : State :=
  if s.lock then raiseError .lockErr (addrInfo addr) s
  else if r = .chmap then
    match ChMap.ofWord w with
    | some m => { s with chmap := m }
    | none => raiseError .busErr (addrInfo addr) s
  else s.store r w

/-- A legal BusWrite, by the access type of its target (20_memory.md R55). -/
def writeReg (addr : Addr) (r : Reg) (w : Word) (s : State) : Host.Outcome State Fault Refusal :=
  match r.access with
  | .ro => .next (raiseError .busErr (addrInfo addr) s)
  | .rwl => .next (writeLockable addr r w s)
  | .rw => .next (s.store r w)
  | .w1c => .next (acknowledge w s)
  | .wo => if r = .cmd then performCommand w s else .next (rxByte (w.setWidth 8) s)

/-- BusWrite (20_memory.md R52, R55): an illegal access raises BUS_ERR and changes nothing else. -/
def busWrite (addr : Addr) (size : Nat) (w : Word) (s : State) : Host.Outcome State Fault Refusal :=
  match legalReg addr size with
  | some r => writeReg addr r w s
  | none => .next (raiseError .busErr (addrInfo addr) s)

/-- A host access (20_memory.md R52). -/
def hostAccess (h : HostAccess) (s : State) : Host.Outcome State Fault Refusal :=
  match h with
  | .read addr size => .next (busRead addr size s)
  | .write addr size data => busWrite addr size data s

/-- The host bus returns a word only in the event that reads (20_memory.md R51; log 3). -/
def clearResponse (s : State) : State := { s with readData := none }

/-- One event (00_scope.md R12). Before the first Reset every event but Reset is refused (70_reset_and_hazards.md R182). -/
def perform (e : Event) (s : State) : Host.Outcome State Fault Refusal :=
  match e with
  | .reset => .next (doReset s)
  | .host h => if s.seenReset then hostAccess h (clearResponse s) else .refused .beforeFirstReset
  | .rxByte b => if s.seenReset then .next (rxByte b (clearResponse s)) else .refused .beforeFirstReset

/-- The event that the first arrival presents and the arrivals left after it. A tie presents its two events one after the
other, in the order of the free value `Config.rxFirst` (20_memory.md R60; log 2). -/
def splitArrival (a : Arrival) (rest : List Arrival) (ties : Nat) : Event × List Arrival :=
  match a with
  | .one e => (e, rest)
  | .tie h b => if Config.rxFirst ties then (.rxByte b, .one (.host h) :: rest) else (.host h, .one (.rxByte b) :: rest)

/-- The tie counter after an arrival (log 2). -/
def tiesAfter (a : Arrival) (ties : Nat) : Nat :=
  match a with
  | .one _ => ties
  | .tie _ _ => ties + 1

/-- One step: the next event of the total order (20_memory.md R60) is performed whole. With no arrival the block waits and
all its state persists (60_exceptions.md R174). -/
def nextEvent (s : State) : Host.Outcome State Fault Refusal :=
  match s.arrivals with
  | [] => .next s
  | a :: rest =>
    perform (splitArrival a rest s.ties).1
      { s with arrivals := (splitArrival a rest s.ties).2, ties := tiesAfter a s.ties }

/-- The host's write of a command word to CMD (30_encoding.md R72, R77). -/
def commandWrite (w : Word) : Event := .host (.write (BitVec.ofNat 12 Reg.cmd.address) 4 w)

/-- The state whose next event is the write of a command word to CMD, after a Reset has happened (log 1). -/
def State.presentCommand (s : State) (w : Word) : State :=
  { s with seenReset := true, arrivals := .one (commandWrite w) :: s.arrivals }

end Sys2Proof.Machine
end

