-- ==== Sys2Proof/Machine/Step.lean ====
section
/-! DEFINITION. The step of the machine, and the placing of one command where the next step finds it. -/

namespace Sys2Proof.Machine

/-- One step performs the next event (00_scope.md R12). -/
def step (s : State) : Host.Outcome State Fault Refusal := nextEvent s

/-- The state whose very next step performs the command word with the bits `w` of a table row of `nbits` bits (log 1). -/
def State.withFetchWord (s : State) (nbits w : Nat) : State := s.presentCommand (tableWord nbits w)

end Sys2Proof.Machine
end

