-- ==== Sys2Proof/Machine/Asm.lean ====
section
/-! DEFINITION. The assembler (30_encoding.md R77, R78): a statement or pseudo-instruction expands to events. It adds no state and
no rule; it serves to write programs and frames. -/

namespace Sys2Proof.Machine

/-- q(n/d), the Q16.16 code of a real rounded to the nearest code, ties away from zero (30_encoding.md R77), for d > 0. -/
def qCode (n : Int) (d : Nat) : Int :=
  let k : Int := ((2 * n.natAbs * 65536 + d) / (2 * d) : Nat)
  if n < 0 then -k else k

/-- The statements and pseudo-instructions of 30_encoding.md R77 and R78. -/
inductive Stmt where
  | command (i : Instr)
  | wr (r : Reg) (v : Word)
  | rd (r : Reg)
  | clr (mask : Word)
  | rx (bytes : List Byte)
  | frame (channels : Vector Chan 14)
  | lockcfg (v : Word)
deriving DecidableEq, Repr

/-- The two bytes of a 16-bit frame word in arrival order (30_encoding.md R82, R84). -/
def wordBytes (be : Bool) (c : Chan) : List Byte :=
  if be then [c.extractLsb' 8 8, c.extractLsb' 0 8] else [c.extractLsb' 0 8, c.extractLsb' 8 8]

/-- Bytes 0 to 29 of the valid frame of some channel values (30_encoding.md R83). -/
def frameBody (h0 h1 : Byte) (be : Bool) (chs : Vector Chan 14) : List Byte :=
  h0 :: h1 :: chs.toList.flatMap (wordBytes be)

/-- The checksum word of a frame body (30_encoding.md R84). -/
def bodyChecksum (body : List Byte) : Chan := BitVec.ofNat 16 (0xFFFF - (body.map BitVec.toNat).sum % 65536)

/-- The 32 bytes of the valid frame of some channel values (30_encoding.md R83, R84). -/
def frameBytes (h0 h1 : Byte) (be : Bool) (chs : Vector Chan 14) : List Byte :=
  frameBody h0 h1 be chs ++ wordBytes be (bodyChecksum (frameBody h0 h1 be chs))

/-- BusWrite(addr(reg), 4, v) (30_encoding.md R78). -/
def wrEvent (r : Reg) (v : Word) : Event := .host (.write (BitVec.ofNat 12 r.address) 4 v)

/-- BusRead(addr(reg), 4) (30_encoding.md R78). -/
def rdEvent (r : Reg) : Event := .host (.read (BitVec.ofNat 12 r.address) 4)

/-- The expansion of a statement (30_encoding.md R77, R78), with the current HDR and CTRL.BE for FRAME. -/
def Stmt.expand (s : State) : Stmt → List Event
  | .command i => [commandWrite (encode i)]
  | .wr r v => [wrEvent r v]
  | .rd r => [rdEvent r]
  | .clr mask => [wrEvent .status mask]
  | .rx bytes => bytes.map .rxByte
  | .frame chs => (frameBytes s.h0 s.h1 s.be chs).map .rxByte
  | .lockcfg v => [wrEvent .ctrl (v ||| 1)]

end Sys2Proof.Machine
end

