-- ==== Sys2Proof/Safety.lean ====
section
/-! DEFINITION. The terms the statements use: runs, the state invariant, frames, and the records an error leaves. -/

namespace Sys2Proof.Machine

/-- The legal states of the block, as far as 10_state.md fixes them: reserved bits read 0, ERRCAUSE is 0 or VALID with an error
code (R38), and CNT is 0 whenever MODE is not ALIGNED (R42). -/
structure LegalState (s : State) : Prop where
  ctrl_reserved : s.ctrl &&& ~~~ctrlMask = 0
  status_reserved : s.status &&& ~~~statusMask = 0
  irqen_reserved : s.irqen &&& ~~~statusMask = 0
  inputs_reserved : s.inputs &&& ~~~inputsMask = 0
  hdr_reserved : s.hdr &&& ~~~hdrMask = 0
  errcause_form : s.errcause = 0 ∧ s.errinfo = 0 ∨ ∃ c : Cause, s.errcause = bitWord 31 ||| BitVec.ofNat 32 c.code
  scan_empty : s.mode ≠ .aligned → s.cnt = 0

/-- The registers of which `keep` holds read the same after as before. -/
def KeepsRegs (keep : Reg → Prop) (s t : State) : Prop := ∀ r, keep r → t.read r = s.read r

/-- What no register shows, or what is outside the block, is unchanged: the frame buffer with its mode and count, whether a
Reset has happened, the bus response and the inputs. -/
structure SameHidden (s t : State) : Prop where
  seenReset : t.seenReset = s.seenReset
  mode : t.mode = s.mode
  cnt : t.cnt = s.cnt
  buf : t.buf = s.buf
  readData : t.readData = s.readData
  arrivals : t.arrivals = s.arrivals
  ties : t.ties = s.ties

/-- The three registers that record an error (60_exceptions.md R162). -/
def isRecord : Reg → Prop
  | .status | .errinfo | .errcause => True
  | _ => False

/-- The records of one raised error (60_exceptions.md R162), bit by bit: the STATUS bit `c.code` is 1 and the others are as
before, ERRINFO is `info`, ERRCAUSE is 0x80000000 with the code. -/
def Recorded (c : Cause) (info : Word) (s t : State) : Prop :=
  (∀ n < 32, t.status.getLsbD n = (s.status.getLsbD n || n == c.code)) ∧ t.errinfo = info ∧
    t.errcause.toNat = 0x80000000 + c.code

/-- No error is raised: STATUS, ERRINFO and ERRCAUSE are as before. -/
def NotRecorded (s t : State) : Prop := t.status = s.status ∧ t.errinfo = s.errinfo ∧ t.errcause = s.errcause

/-- The only effect is one error record: every other register and everything hidden is unchanged (60_exceptions.md R160). -/
def OnlyRecords (c : Cause) (info : Word) (s t : State) : Prop :=
  Recorded c info s t ∧ KeepsRegs (fun r => ¬isRecord r) s t ∧ SameHidden s t

/-- A value does not fit 32 bits, so that sat32 changes it (00_scope.md R9). -/
def OutOfRange (v : Int) : Prop := v < -2 ^ 31 ∨ 2 ^ 31 - 1 < v

/-- OVF is raised once, with `info`, exactly when a saturation point changed its argument (60_exceptions.md R163). -/
def OvfExactlyWhen (p : Prop) (info : Word) (s t : State) : Prop :=
  (p → Recorded .ovf info s t) ∧ (¬p → NotRecorded s t)

/-- The commands of a list performed one after the other, with no event in between (42_controller.md R122). -/
def execSeq : List Instr → State → Host.Outcome State Fault Refusal
  | [], s => .next s
  | i :: is, s =>
    match exec i s with
    | .next t => execSeq is t
    | .fault r => .fault r
    | .refused r => .refused r

/-- The command raises OVF in this state: performed with STATUS cleared, it leaves STATUS.OVF set (60_exceptions.md R163). -/
def raisesOvf (i : Instr) (s : State) : Bool :=
  match exec i { s with status := 0 } with
  | .next t => t.status.getLsbD Cause.ovf.code
  | .fault _ => false
  | .refused _ => false

/-- The last command of a list performed one after the other that raises OVF (42_controller.md R122). -/
def lastOvf : List Instr → State → Option Instr
  | [], _ => none
  | i :: is, s =>
    match exec i s with
    | .next t =>
      match lastOvf is t with
      | some j => some j
      | none => if raisesOvf i s then some i else none
    | .fault _ => none
    | .refused _ => none

/-- The state whose inputs present exactly these events, in order. -/
def State.presenting (s : State) (es : List Event) : State := { s with arrivals := es.map .one }

/-- The state whose rx port presents exactly these bytes, in order. -/
def State.receiving (s : State) (bytes : List Byte) : State := s.presenting (bytes.map .rxByte)

/-- The event that the next step performs, if an arrival is present. -/
def State.upcoming (s : State) : Option Event :=
  match s.arrivals with
  | [] => none
  | a :: rest => some (splitArrival a rest s.ties).1

/-- The next event is a legal write of the register. -/
def writesReg (r : Reg) (s : State) : Prop :=
  ∃ addr w, s.upcoming = some (.host (.write addr 4 w)) ∧ legalReg addr 4 = some r

/-- The next event is a write to CMD of the word of command `i`. -/
def issues (i : Instr) (s : State) : Prop :=
  ∃ addr w, s.upcoming = some (.host (.write addr 4 w)) ∧ legalReg addr 4 = some .cmd ∧ decode w = .ok i

/-- The next event is the received byte `b`, from the rx port or by a write to RXDATA (43_decoder.md R130). -/
def receives (b : Byte) (s : State) : Prop :=
  s.upcoming = some (.rxByte b) ∨
    ∃ addr w, s.upcoming = some (.host (.write addr 4 w)) ∧ legalReg addr 4 = some .rxdata ∧ b = w.extractLsb' 0 8

/-- `k` steps of the machine, stopping at the first fault or refusal (the host's Core.run on `step`). -/
def runSteps : Nat → State → Host.Outcome State Fault Refusal
  | 0, s => .next s
  | k + 1, s =>
    match step s with
    | .next t => runSteps k t
    | .fault r => .fault r
    | .refused r => .refused r

/-- A run of `k` steps is safe: it meets no fault and no refusal. -/
def SafeRun (k : Nat) (s : State) : Prop := ∃ t, runSteps k s = .next t

/-- Two states that differ at most in frame-buffer bytes at index >= cnt, which 10_state.md R37 leaves unspecified. -/
def SameButStale (s t : State) : Prop :=
  (∃ buf, t = { s with buf := buf }) ∧ ∀ i : Fin 32, i < s.cnt → t.buf[i] = s.buf[i]

/-- The frame that is complete once `b` arrives as its 32nd byte (43_decoder.md R131). -/
def State.frameWith (s : State) (b : Byte) : Vector Byte 32 := s.buf.set 31 b

/-- The decoder is about to receive the 32nd byte of an aligned frame (43_decoder.md R132). -/
def lastByteDue (s : State) : Prop := s.mode = .aligned ∧ s.cnt = 31

/-- The next event is the last byte of a valid frame (43_decoder.md R132, R136). -/
def publishes (s : State) : Prop :=
  ∃ b, receives b s ∧ lastByteDue s ∧
    (s.hdrEn = true → (s.frameWith b)[0] = s.h0 ∧ (s.frameWith b)[1] = s.h1) ∧ checksumOk s.be (s.frameWith b) = true

/-- The lowest bit of the CHMAP field that names an axis's channel: ROLL 3:0, PITCH 7:4, YAW 11:8, ALT 15:12 (10_state.md
R33). -/
def chmapPlace : Axis → Nat
  | .roll => 0
  | .pitch => 4
  | .yawRate => 8
  | .altitude => 12

/-- The lowest bit of CHMAP's ENCH field, 19:16 (10_state.md R33). -/
def enchPlace : Nat := 16

/-- The number in the CHMAP field that starts at bit `lo`. -/
def State.chmapNumber (s : State) (lo : Nat) : Nat := ((s.read .chmap).extractLsb' lo 4).toNat

/-- The channel that this field names (43_decoder.md R141); the field is always below 14. -/
def State.designated (s : State) (lo : Nat) : Fin 14 := Fin.ofNat 14 (s.chmapNumber lo)

/-- The registers that hold the configuration and the inputs an enabled TICK reads besides EN, DUPD, ITERM and LASTERR
(42_controller.md R121): DT, the matrix, and of each axis the gains, the limit, the setpoints and the measurement. -/
def readByTick : Reg → Prop
  | .dt | .m _ _ => True
  | .axis _ r => r = .kp ∨ r = .ki ∨ r = .kd ∨ r = .ilim ∨ r = .defsp ∨ r = .sp ∨ r = .meas
  | _ => False

/-- The setpoints, the enable flag and the channels: what a publication shows (43_decoder.md R137). -/
def SamePublished (s t : State) : Prop :=
  t.ch = s.ch ∧ t.inputs = s.inputs ∧ t.framesOk = s.framesOk ∧ ∀ a, (t.bank a).sp = (s.bank a).sp

end Sys2Proof.Machine
end

