-- ==== Sys2Proof/Certificates/Slice0/Obligations.lean ====
section
/-! DEFINITION. The statements about the model, from the numbered rules of spec/. -/

open Sys2Proof Sys2Proof.Machine

/-! ## The command word (30_encoding.md) -/

/-- Decoder and encoder agree on every one of the 2^32 words: a word decodes to a command exactly if it is the word of that
command. -/
def Obligations.DecodeIffEncode : Prop := ∀ (w : Word) (i : Instr), decode w = .ok i ↔ w = encode i

/-- R73: a word with OP above 0x05, or with a nonzero bit in a field that its row does not use, only raises CMD_ERR with
ERRINFO = w. Every other word is a command and is performed. -/
def Obligations.IllegalWordOnlyRaisesCmdErr : Prop :=
  ∀ (w : Word) (s : State),
    ((6 ≤ opField w ∨ reservedField w ≠ 0 ∨ (srcField w = true ∧ opField w ≠ 4) ∨
        (axisField w ≠ 0 ∧ opField w ≠ 1 ∧ opField w ≠ 2)) →
      ∃ t, performCommand w s = .next t ∧ OnlyRecords .cmdErr w s t) ∧
    (¬(6 ≤ opField w ∨ reservedField w ≠ 0 ∨ (srcField w = true ∧ opField w ≠ 4) ∨
        (axisField w ≠ 0 ∧ opField w ≠ 1 ∧ opField w ≠ 2)) →
      ∃ i, decode w = .ok i ∧ performCommand w s = exec i s)

/-- At most one row of the opcode map matches any word (30_encoding.md R72). -/
def Obligations.OpcodeRowsDisjoint : Prop :=
  ∀ (w : Word) (r r' : OpRow), r ∈ opcodeMap → r' ∈ opcodeMap → r.matches w = true → r'.matches w = true → r = r'

/-- The encodings that 30_encoding.md R76 writes out decode to the commands they stand for. -/
def Obligations.WrittenOutWordsDecode : Prop :=
  decode 0x00000000 = .ok .nop ∧
  decode 0x00000001 = .ok (.pidUpdate .roll) ∧ decode 0x00000101 = .ok (.pidUpdate .pitch) ∧
  decode 0x00000201 = .ok (.pidUpdate .yawRate) ∧ decode 0x00000301 = .ok (.pidUpdate .altitude) ∧
  decode 0x00000002 = .ok (.pidReset .roll) ∧ decode 0x00000102 = .ok (.pidReset .pitch) ∧
  decode 0x00000202 = .ok (.pidReset .yawRate) ∧ decode 0x00000302 = .ok (.pidReset .altitude) ∧
  decode 0x00000003 = .ok .pidResetAll ∧ decode 0x00000004 = .ok (.mix .pidout) ∧
  decode 0x00000404 = .ok (.mix .mixin) ∧ decode 0x00000005 = .ok .tick

/-- A step runs the decoded command: when the next arrival is a write to CMD of a word that decodes to `i`, the step is exec of
`i` at the state with that arrival taken and no bus response. The same from withFetchWord. A step whose next arrival is any
host access is that access, and one whose next arrival is a byte of the rx port is that received byte, at the same state. (How
an event arrives is the model's choice, log 1; that no bus response is left from the event before is log 3.) -/
def Obligations.StepPerformsDecodedCommand : Prop :=
  (∀ (s : State) (w : Word) (i : Instr) (rest : List Arrival), s.seenReset = true →
    s.arrivals = .one (.host (.write 0x010 4 w)) :: rest → decode w = .ok i →
    step s = exec i { s with arrivals := rest, readData := none }) ∧
  (∀ (s : State) (nbits w : Nat) (i : Instr), decodeTableWord nbits w = some i →
    step (s.withFetchWord nbits w) = exec i { s with seenReset := true, readData := none }) ∧
  (∀ (s : State) (h : HostAccess) (rest : List Arrival), s.seenReset = true → s.arrivals = .one (.host h) :: rest →
    step s = hostAccess h { s with arrivals := rest, readData := none }) ∧
  ∀ (s : State) (b : Byte) (rest : List Arrival), s.seenReset = true → s.arrivals = .one (.rxByte b) :: rest →
    step s = .next (rxByte b { s with arrivals := rest, readData := none })

/-! ## The commands (40_pid.md, 41_mixer.md, 42_controller.md) -/

/-- R120: NOP is the all-zero word and leaves all state unchanged. A word with OP = 0x00 and any other bit set only raises
CMD_ERR. -/
def Obligations.NopChangesNothing : Prop :=
  (∀ s : State, exec .nop s = .next s) ∧ decode 0 = .ok .nop ∧
  ∀ (w : Word) (s : State), opField w = 0 → w ≠ 0 → ∃ t, performCommand w s = .next t ∧ OnlyRecords .cmdErr w s t

/-- R102: PID.RESET of axis a completes in every state, clears ITERM[a] and changes nothing else; its words are those of match
0x00000002 under mask 0xFFFFFCFF with AXIS = a. -/
def Obligations.PidResetClearsOneIntegrator : Prop :=
  (∀ (a : Axis) (s : State), ∃ t, exec (.pidReset a) s = .next t ∧ t.read (.axis a .iterm) = 0 ∧
    KeepsRegs (fun r => r ≠ .axis a .iterm) s t ∧ SameHidden s t) ∧
  ∀ (a : Axis) (w : Word), decode w = .ok (.pidReset a) ↔ w &&& 0xFFFFFCFF = 0x00000002 ∧ axisField w = a.index

/-- R103: PID.RESETALL completes in every state, clears all four ITERM and changes nothing else; its word is 0x00000003. A
disabled TICK leaves ITERM as PID.RESETALL does. -/
def Obligations.PidResetAllClearsAllIntegrators : Prop :=
  (∀ s : State, ∃ t, exec .pidResetAll s = .next t ∧ (∀ a, t.read (.axis a .iterm) = 0) ∧
    KeepsRegs (fun r => ∀ a, r ≠ .axis a .iterm) s t ∧ SameHidden s t) ∧
  (∀ w : Word, decode w = .ok .pidResetAll ↔ w = 0x00000003) ∧
  ∀ s : State, (s.read .inputs).getLsbD 0 = false → ∃ t u, exec .tick s = .next t ∧ exec .pidResetAll s = .next u ∧
    ∀ a, t.read (.axis a .iterm) = u.read (.axis a .iterm)

/-- PID.UPDATE of axis a with DT > 0 and ILIM[a] >= 0 (40_pid.md R101): the whole control law over the state before the
command, LASTERR[a] only with DUPD = 1 (R104), OVF exactly when a saturation point changed its argument, nothing else. -/
def Obligations.PidUpdateComputesControlLaw : Prop :=
  ∀ (a : Axis) (s : State), 0 < (s.read .dt).toInt → 0 ≤ (s.read (.axis a .ilim)).toInt →
    let reg := fun r => (s.read (.axis a r)).toInt
    let dt := (s.read .dt).toInt
    let sp := sat32 (reg .defsp + reg .sp)
    let err := sat32 (sp - reg .meas)
    let it := max (-reg .ilim) (min (reg .iterm + fxmul dt err) (reg .ilim))
    let raw := fxmul err (reg .kp) + fxmul it (reg .ki) + fxmul (fxdiv (reg .lasterr - err) dt) (reg .kd)
    ∃ t, exec (.pidUpdate a) s = .next t ∧
      (t.read (.axis a .iterm)).toInt = it ∧
      (t.read (.axis a .pidout)).toInt = sat32 raw ∧
      ((s.read .ctrl).getLsbD 1 = true → (t.read (.axis a .lasterr)).toInt = err) ∧
      ((s.read .ctrl).getLsbD 1 = false → t.read (.axis a .lasterr) = s.read (.axis a .lasterr)) ∧
      OvfExactlyWhen (OutOfRange (reg .defsp + reg .sp) ∨ OutOfRange (sp - reg .meas) ∨ OutOfRange raw)
        (encode (.pidUpdate a)) s t ∧
      KeepsRegs (fun r => ¬isRecord r ∧ r ≠ .axis a .iterm ∧ r ≠ .axis a .lasterr ∧ r ≠ .axis a .pidout) s t ∧
      SameHidden s t

/-- R100: PID.UPDATE of axis a, and an enabled TICK, whose check fails write nothing beyond the error records. DT_ERR is raised
first, so with both errors the capture registers show LIM_ERR and both STATUS bits are set. -/
def Obligations.FailedCheckWritesOnlyRecords : Prop :=
  ∀ (s : State) (i : Instr) (used : List Axis),
    ((∃ a, i = .pidUpdate a ∧ used = [a]) ∨ (i = .tick ∧ (s.read .inputs).getLsbD 0 = true ∧ used = Axis.all)) →
    let dtErr := (s.read .dt).toInt ≤ 0
    let limErr := ∃ a ∈ used, (s.read (.axis a .ilim)).toInt < 0
    dtErr ∨ limErr →
    ∃ t, exec i s = .next t ∧
      (dtErr → ¬limErr → OnlyRecords .dtErr (encode i) s t) ∧
      (limErr → ¬dtErr → OnlyRecords .limErr (encode i) s t) ∧
      (dtErr → limErr →
        (∀ n < 32, t.status.getLsbD n = (s.status.getLsbD n || n == 0 || n == 1)) ∧ t.errinfo = encode i ∧
        t.errcause = 0x80000001 ∧ KeepsRegs (fun r => ¬isRecord r) s t ∧ SameHidden s t)

/-- After a PID.UPDATE of axis a that passes its check, -ILIM[a] <= ITERM[a] <= ILIM[a] (10_state.md R42, the anti-windup
clamp), and the same for all four axes after an enabled TICK. -/
def Obligations.IntegratorStaysWithinLimit : Prop :=
  (∀ (a : Axis) (s t : State), 0 < (s.read .dt).toInt → 0 ≤ (s.read (.axis a .ilim)).toInt →
    exec (.pidUpdate a) s = .next t →
    -(t.read (.axis a .ilim)).toInt ≤ (t.read (.axis a .iterm)).toInt ∧
      (t.read (.axis a .iterm)).toInt ≤ (t.read (.axis a .ilim)).toInt) ∧
  (∀ s t : State, (s.read .inputs).getLsbD 0 = true → 0 < (s.read .dt).toInt →
    (∀ a, 0 ≤ (s.read (.axis a .ilim)).toInt) → exec .tick s = .next t →
    ∀ a, -(t.read (.axis a .ilim)).toInt ≤ (t.read (.axis a .iterm)).toInt ∧
      (t.read (.axis a .iterm)).toInt ≤ (t.read (.axis a .ilim)).toInt)

/-- R111 with the mixing function of R110: MIX completes in every state; ACT[i] is the row product with PIDOUT or MIXIN, rounded
once toward minus infinity and saturated once; OVF exactly when a row does not fit; nothing else changes. Its words are those
of match 0x00000004 under mask 0xFFFFFBFF, with SRC in bit 10. -/
def Obligations.MixAppliesMatrix : Prop :=
  (∀ (w : Word) (src : MixSource), decode w = .ok (.mix src) ↔
    w &&& 0xFFFFFBFF = 0x00000004 ∧ (src = .mixin ↔ w.getLsbD 10 = true)) ∧
  ∀ (src : MixSource) (s : State),
    let v := fun j => match src with
      | .pidout => (s.read (.axis j .pidout)).toInt
      | .mixin => (s.read (.mixin j)).toInt
    let row := fun i => floorDiv ((s.read (.m i .roll)).toInt * v .roll + (s.read (.m i .pitch)).toInt * v .pitch +
      (s.read (.m i .yawRate)).toInt * v .yawRate + (s.read (.m i .altitude)).toInt * v .altitude) (2 ^ 16)
    ∃ t, exec (.mix src) s = .next t ∧ (∀ i, (t.read (.act i)).toInt = sat32 (row i)) ∧
      OvfExactlyWhen (∃ i, OutOfRange (row i)) (encode (.mix src)) s t ∧
      KeepsRegs (fun r => ¬isRecord r ∧ ∀ i, r ≠ .act i) s t ∧ SameHidden s t

/-- R112: the row product is the exact sum, the actuator value is its floor by 2^16 whenever that fits 32 bits, and mixing is
additive up to 0 or 1 per actuator when nothing saturates. -/
def Obligations.MixingIsLinearUpToRounding : Prop :=
  (∀ (m : PerActuator (PerAxis Word)) (v : PerAxis Int) (i : Actuator),
    let sum := (((m.get i).get .roll).toInt * v.get .roll + ((m.get i).get .pitch).toInt * v.get .pitch +
      ((m.get i).get .yawRate).toInt * v.get .yawRate + ((m.get i).get .altitude).toInt * v.get .altitude)
    ¬OutOfRange (sum / 2 ^ 16) → mixvec m v i * 2 ^ 16 ≤ sum ∧ sum < (mixvec m v i + 1) * 2 ^ 16) ∧
  (∀ (m : PerActuator (PerAxis Word)) (u v : PerAxis Int) (i : Actuator),
    saturates (rowRounded m u i) = false → saturates (rowRounded m v i) = false →
    saturates (rowRounded m (PerAxis.gen fun a => u.get a + v.get a) i) = false →
    mixvec m (PerAxis.gen fun a => u.get a + v.get a) i - mixvec m u i - mixvec m v i = 0 ∨
      mixvec m (PerAxis.gen fun a => u.get a + v.get a) i - mixvec m u i - mixvec m v i = 1)

/-- A disabled TICK completes in every state with EN = 0 (42_controller.md R121): ACT and ITERM become 0, nothing is checked,
nothing else changes. -/
def Obligations.DisabledTickGoesNeutral : Prop :=
  ∀ s : State, (s.read .inputs).getLsbD 0 = false →
    ∃ t, exec .tick s = .next t ∧ (∀ i, t.read (.act i) = 0) ∧ (∀ a, t.read (.axis a .iterm) = 0) ∧
      KeepsRegs (fun r => (∀ i, r ≠ .act i) ∧ ∀ a, r ≠ .axis a .iterm) s t ∧ SameHidden s t

/-- An enabled TICK with DT > 0 and every ILIM >= 0 completes (42_controller.md R121): every axis gets the control law of
40_pid.md R101 from the state before the tick, ACT is the matrix times the four new outputs, OVF is raised exactly when a
saturation point of an axis or a mixer row changed its argument, and nothing else changes. -/
def Obligations.EnabledTickUpdatesAndMixes : Prop :=
  ∀ s : State, (s.read .inputs).getLsbD 0 = true → 0 < (s.read .dt).toInt →
    (∀ a, 0 ≤ (s.read (.axis a .ilim)).toInt) →
    let reg := fun a r => (s.read (.axis a r)).toInt
    let dt := (s.read .dt).toInt
    let sp := fun a => sat32 (reg a .defsp + reg a .sp)
    let err := fun a => sat32 (sp a - reg a .meas)
    let it := fun a => max (-reg a .ilim) (min (reg a .iterm + fxmul dt (err a)) (reg a .ilim))
    let raw := fun a => fxmul (err a) (reg a .kp) + fxmul (it a) (reg a .ki) +
      fxmul (fxdiv (reg a .lasterr - err a) dt) (reg a .kd)
    let out := fun a => sat32 (raw a)
    let row := fun i => floorDiv ((s.read (.m i .roll)).toInt * out .roll + (s.read (.m i .pitch)).toInt * out .pitch +
      (s.read (.m i .yawRate)).toInt * out .yawRate + (s.read (.m i .altitude)).toInt * out .altitude) (2 ^ 16)
    ∃ t, exec .tick s = .next t ∧
      (∀ a, (t.read (.axis a .iterm)).toInt = it a ∧ (t.read (.axis a .pidout)).toInt = out a) ∧
      ((s.read .ctrl).getLsbD 1 = true → ∀ a, (t.read (.axis a .lasterr)).toInt = err a) ∧
      ((s.read .ctrl).getLsbD 1 = false → ∀ a, t.read (.axis a .lasterr) = s.read (.axis a .lasterr)) ∧
      (∀ i, (t.read (.act i)).toInt = sat32 (row i)) ∧
      OvfExactlyWhen ((∃ a, OutOfRange (reg a .defsp + reg a .sp) ∨ OutOfRange (sp a - reg a .meas) ∨ OutOfRange (raw a)) ∨
        ∃ i, OutOfRange (row i)) (encode .tick) s t ∧
      KeepsRegs (fun r => ¬isRecord r ∧ (∀ i, r ≠ .act i) ∧
        ∀ a, r ≠ .axis a .iterm ∧ r ≠ .axis a .lasterr ∧ r ≠ .axis a .pidout) s t ∧ SameHidden s t

/-- R122: an enabled TICK whose check passes is PID.UPDATE of the four axes and MIX pid on ITERM, LASTERR, PIDOUT and ACT, and
sets the same STATUS bits; either neither raises an error, or the sequence leaves in ERRINFO the word of its last command that
raises OVF and TICK leaves its own. A disabled TICK has the effect of PID.RESETALL on ITERM and sets ACT to 0. -/
def Obligations.TickEqualsUpdatesThenMix : Prop :=
  (∀ s : State, (s.read .inputs).getLsbD 0 = true → 0 < (s.read .dt).toInt →
    (∀ a, 0 ≤ (s.read (.axis a .ilim)).toInt) →
    let commands := [.pidUpdate .roll, .pidUpdate .pitch, .pidUpdate .yawRate, .pidUpdate .altitude, .mix .pidout]
    ∃ t u, exec .tick s = .next t ∧ execSeq commands s = .next u ∧
      KeepsRegs (fun r => r ≠ .errinfo) u t ∧ SameHidden u t ∧
      match lastOvf commands s with
      | none => NotRecorded s u ∧ NotRecorded s t
      | some i => Recorded .ovf (encode i) s u ∧ Recorded .ovf (encode .tick) s t) ∧
  (∀ s : State, (s.read .inputs).getLsbD 0 = false →
    ∃ t u, exec .tick s = .next t ∧ exec .pidResetAll s = .next u ∧
      (∀ a, t.read (.axis a .iterm) = u.read (.axis a .iterm)) ∧ ∀ i, t.read (.act i) = 0)

/-- The datapath widths of 40_pid.md R105: 33 signed bits hold the two sums before saturation, and every other intermediate value
keeps its bound. For p the bound is |p| <= 2^46: the rule's own |p| < 2^46 misses the value 2^46, which err = KP = -2^31
reaches (log 10). -/
def Obligations.DatapathWidthsSuffice : Prop :=
  (∀ (b : AxisBank) (dt : Int), 0 < dt → dt ≤ 2 ^ 31 - 1 → 0 ≤ b.ilim.toInt →
    (-2 ^ 32 ≤ setpointSum b ∧ setpointSum b < 2 ^ 32) ∧ (-2 ^ 32 ≤ errorDifference b ∧ errorDifference b < 2 ^ 32) ∧
    |pidP b| ≤ 2 ^ 46 ∧ |pidIout dt b| < 2 ^ 46 ∧ |b.iterm.toInt + fxmul dt (pidError b)| < 2 ^ 47 ∧
    |b.lasterr.toInt - pidError b| < 2 ^ 32 ∧ |pidQuotient dt b| < 2 ^ 48 ∧ |pidQuotient dt b * b.kd.toInt| < 2 ^ 79 ∧
    |pidDout dt b| < 2 ^ 63 ∧ |commandSum dt b| < 2 ^ 64) ∧
  ∃ b : AxisBank, pidP b = 2 ^ 46

/-- With DT > 0 and ILIM[a] >= 0, if the absolute setpoint equals the measurement without saturation and ITERM[a] = 0, the
update leaves ITERM[a] = 0, and from LASTERR[a] = 0 it gives PIDOUT[a] = 0 (40_pid.md R106, first property). -/
def Obligations.ZeroErrorContributesNothing : Prop :=
  ∀ (a : Axis) (s : State), 0 < (s.read .dt).toInt → 0 ≤ (s.read (.axis a .ilim)).toInt →
    (s.read (.axis a .defsp)).toInt + (s.read (.axis a .sp)).toInt = (s.read (.axis a .meas)).toInt →
    s.read (.axis a .iterm) = 0 →
    ∃ t, exec (.pidUpdate a) s = .next t ∧ t.read (.axis a .iterm) = 0 ∧
      (s.read (.axis a .lasterr) = 0 → t.read (.axis a .pidout) = 0)

/-- Scenario B (42_controller.md R123): after a disabled TICK, then any run of frames and host writes, none of them a command or
Reset, that ends with EN = 1, an enabled TICK whose check passes gives the same ITERM, PIDOUT and ACT as on a fresh block, if
LASTERR = 0 or KD = 0 on every axis. The fresh block has EN = 1, ITERM = LASTERR = 0 as after Reset, and the same DT, matrix,
gains, limits, setpoints and measurements; all else in it is arbitrary. -/
def Obligations.ReenabledTickIsFresh : Prop :=
  ∀ (s t u fresh : State) (n : Nat), (s.read .inputs).getLsbD 0 = false → exec .tick s = .next t →
    (∀ k < n, ∀ v, runSteps k t = .next v → v.upcoming ≠ some .reset ∧ ∀ i, ¬issues i v) → runSteps n t = .next u →
    (u.read .inputs).getLsbD 0 = true → 0 < (u.read .dt).toInt → (∀ a, 0 ≤ (u.read (.axis a .ilim)).toInt) →
    (∀ a, u.read (.axis a .lasterr) = 0 ∨ u.read (.axis a .kd) = 0) →
    (fresh.read .inputs).getLsbD 0 = true →
    (∀ a, fresh.read (.axis a .iterm) = 0 ∧ fresh.read (.axis a .lasterr) = 0) → KeepsRegs readByTick u fresh →
    ∃ u' f', exec .tick u = .next u' ∧ exec .tick fresh = .next f' ∧
      (∀ a, u'.read (.axis a .iterm) = f'.read (.axis a .iterm) ∧
        u'.read (.axis a .pidout) = f'.read (.axis a .pidout)) ∧ ∀ i, u'.read (.act i) = f'.read (.act i)

/-- While CTRL.DUPD = 0 no event but Reset writes LASTERR (40_pid.md R104), so a run with DUPD = 0 throughout keeps LASTERR at 0
(10_state.md R42). -/
def Obligations.LegacyModeNeverWritesLasterr : Prop :=
  (∀ s t : State, s.dupd = false → s.upcoming ≠ some .reset → step s = .next t →
    ∀ a, t.read (.axis a .lasterr) = s.read (.axis a .lasterr)) ∧
  ∀ (n : Nat) (s t : State), (∀ a, s.read (.axis a .lasterr) = 0) →
    (∀ k < n, ∀ u, runSteps k s = .next u → u.dupd = false) → runSteps n s = .next t →
    ∀ a, t.read (.axis a .lasterr) = 0

/-! ## Arithmetic (00_scope.md) -/

/-- The arithmetic primitives of 00_scope.md R9, each by the property that defines it; the OVF that a changed sat32 argument
raises is stated with each command. -/
def Obligations.PrimitivesRoundAsDefined : Prop :=
  (∀ n d : Int, 0 < d → floorDiv n d * d ≤ n ∧ ∀ q : Int, q * d ≤ n → q ≤ floorDiv n d) ∧
  (∀ n d : Int, d ≠ 0 → |truncDiv n d * d| ≤ |n| ∧ |n| < |truncDiv n d * d| + |d| ∧ 0 ≤ (truncDiv n d * d) * n) ∧
  (∀ v : Int, (v < -2 ^ 31 → sat32 v = -2 ^ 31) ∧ (2 ^ 31 - 1 < v → sat32 v = 2 ^ 31 - 1) ∧ (¬OutOfRange v → sat32 v = v)) ∧
  (∀ v lo hi : Int, lo ≤ hi → clamp v lo hi = max lo (min v hi) ∧ lo ≤ clamp v lo hi ∧ clamp v lo hi ≤ hi) ∧
  (∀ a b : Int, fxmul a b = floorDiv (a * b) (2 ^ 16)) ∧ ∀ a b : Int, fxdiv a b = truncDiv (a * 2 ^ 16) b

/-! ## The receiver (30_encoding.md, 43_decoder.md) -/

/-- R82: channel k is bytes 2+2k and 3+2k, little-endian when BE = 0, big-endian when BE = 1. -/
def Obligations.ChannelWordByteOrder : Prop :=
  ∀ (buf : Vector Byte 32) (k : Fin 14),
    ((channelWords false buf)[k]).toNat = (buf[2 + 2 * k.val]).toNat + 256 * (buf[3 + 2 * k.val]).toNat ∧
    ((channelWords true buf)[k]).toNat = 256 * (buf[2 + 2 * k.val]).toNat + (buf[3 + 2 * k.val]).toNat

/-- The checksum of 30_encoding.md R84: the check is additive, the header bytes are summed, and the order of the checksum word
follows CTRL.BE. The expected word is at least 65535 - 7650 = 57885, where the rule's remark says 58885: thirty bytes 0xFF
reach 57885 (log 11). -/
def Obligations.ChecksumIsAdditiveComplement : Prop :=
  (∀ (be : Bool) (buf : Vector Byte 32),
    let sum := ∑ i : Fin 30, (buf[i.val]).toNat
    let received := if be then 256 * (buf[30]).toNat + (buf[31]).toNat else (buf[30]).toNat + 256 * (buf[31]).toNat
    (checksumOk be buf = true ↔ received = 0xFFFF - sum % 65536) ∧ sum ≤ 7650 ∧ sum % 65536 = sum) ∧
  ∃ buf : Vector Byte 32, 0xFFFF - ∑ i : Fin 30, (buf[i.val]).toNat = 57885

/-- DEC_STATE (10_state.md R36): bits 1:0 hold the mode and are never 3, bits 12:8 hold cnt, every other bit reads 0, the
register is RO, and its reset value is 0. -/
def Obligations.DecStateShowsModeAndCount : Prop :=
  (∀ s : State,
    ((s.read .decState).extractLsb' 0 2).toNat = (match s.mode with | .aligned => 0 | .scan0 => 1 | .scan1 => 2) ∧
    ((s.read .decState).extractLsb' 8 5).toNat = s.cnt.val ∧ s.read .decState &&& ~~~0x00001F03 = 0) ∧
  Reg.decState.access = .ro ∧ State.reset.read .decState = 0

/-- R138: norm is the quotient of (c - 1500) * 2^16 by 500 rounded toward zero, is not clamped, and has the values the rule
lists. -/
def Obligations.NormIsTruncatedQuotient : Prop :=
  (∀ c : Chan, normalise c = Int.tdiv (((c.toNat : Int) - 1500) * 2 ^ 16) 500 ∧ |normalise c| < 2 ^ 31) ∧
  normalise 1500 = 0 ∧ normalise 2000 = 65536 ∧ normalise 1000 = -65536 ∧ normalise 0 = -196608 ∧ normalise 65535 = 8393195

/-- The enable test of 43_decoder.md R139: norm(c) > 39321 holds exactly for c >= 1801, which is the real test
(c - 1500) / 500 > 0.6. -/
def Obligations.EnableThresholdIsExact : Prop :=
  (∀ c : Chan, (enables c = true ↔ 39321 < normalise c) ∧ (39321 < normalise c ↔ 1801 ≤ c.toNat) ∧
    (1801 ≤ c.toNat ↔ (3 / 5 : ℚ) < ((c.toNat : ℚ) - 1500) / 500)) ∧ normalise 1800 = 39321 ∧ normalise 1801 = 39452

/-- The byte step while aligned and the frame is not yet complete (43_decoder.md R131): the byte is stored at cnt, cnt counts
on, nothing else changes. -/
def Obligations.AlignedByteIsStored : Prop :=
  ∀ (b : Byte) (s : State), s.mode = .aligned → s.cnt ≠ 31 →
    let t := rxByte b s
    t.buf = s.buf.set s.cnt b ∧ t.cnt.val = s.cnt.val + 1 ∧ t.mode = .aligned ∧
      KeepsRegs (fun r => r ≠ .decState) s t ∧ t.seenReset = s.seenReset ∧ t.readData = s.readData ∧
      t.arrivals = s.arrivals ∧ t.ties = s.ties

/-- R133 with the test of R132: at the 32nd byte, with HDR_EN = 1 and bytes 0, 1 not H0, H1, the decoder enters SCAN0 with
cnt = 0, RESYNCS counts one modulo 2^32 and STATUS.RESYNC is set; ERRINFO, ERRCAUSE and every other register are unchanged,
whatever the checksum. -/
def Obligations.HeaderMismatchEntersScan : Prop :=
  ∀ (b : Byte) (s : State), lastByteDue s → s.hdrEn = true →
    ((s.frameWith b)[0] ≠ s.h0 ∨ (s.frameWith b)[1] ≠ s.h1) →
    let t := rxByte b s
    t.mode = .scan0 ∧ t.cnt = 0 ∧ t.resyncs.toNat = (s.resyncs.toNat + 1) % 2 ^ 32 ∧
      (∀ n < 32, t.status.getLsbD n = (s.status.getLsbD n || n == 8)) ∧
      KeepsRegs (fun r => r ≠ .decState ∧ r ≠ .resyncs ∧ r ≠ .status) s t ∧ SamePublished s t

/-- R135 with the test of R132: at the 32nd byte, with the header passing or not defined and the checksum wrong, CSUM_ERRS
counts one modulo 2^32, STATUS.CSUM is set, the decoder stays ALIGNED with cnt = 0; every other register is unchanged. -/
def Obligations.ChecksumFailureDropsFrame : Prop :=
  ∀ (b : Byte) (s : State), lastByteDue s →
    (s.hdrEn = true → (s.frameWith b)[0] = s.h0 ∧ (s.frameWith b)[1] = s.h1) → checksumOk s.be (s.frameWith b) = false →
    let t := rxByte b s
    t.mode = .aligned ∧ t.cnt = 0 ∧ t.csumErrs.toNat = (s.csumErrs.toNat + 1) % 2 ^ 32 ∧
      (∀ n < 32, t.status.getLsbD n = (s.status.getLsbD n || n == 7)) ∧
      KeepsRegs (fun r => r ≠ .decState ∧ r ≠ .csumErrs ∧ r ≠ .status) s t ∧ SamePublished s t

/-- R136 with the test of R132: at the 32nd byte of a valid frame, CH, the four SP, EN, FRAMES_OK and STATUS.FRAME are written
in one event, each SP from the channel that the CHMAP field of its axis names and EN from that of ENCH; OVF is raised with the
received byte exactly when a scaled setpoint does not fit, and nothing else changes. -/
def Obligations.ValidFrameIsPublished : Prop :=
  ∀ (b : Byte) (s : State), lastByteDue s →
    (s.hdrEn = true → (s.frameWith b)[0] = s.h0 ∧ (s.frameWith b)[1] = s.h1) → checksumOk s.be (s.frameWith b) = true →
    let t := rxByte b s
    let ch := channelWords s.be (s.frameWith b)
    let raw := fun a => fxmul (normalise ch[s.designated (chmapPlace a)]) (s.read (.axis a .sens)).toInt
    (∀ lo ∈ [0, 4, 8, 12, 16], s.chmapNumber lo ≤ 13) ∧ (∀ k : Fin 14, t.read (.ch k) = (ch[k]).setWidth 32) ∧
      (∀ a, (t.read (.axis a .sp)).toInt = sat32 (raw a)) ∧
      t.read .inputs = (if 39321 < normalise ch[s.designated enchPlace] then 1 else 0) ∧
      (t.read .framesOk).toNat = ((s.read .framesOk).toNat + 1) % 2 ^ 32 ∧
      (∀ n < 32, n ≠ 2 → t.status.getLsbD n = (s.status.getLsbD n || n == 6)) ∧
      (t.status.getLsbD 2 = true ↔ s.status.getLsbD 2 = true ∨ ∃ a, OutOfRange (raw a)) ∧
      ((∃ a, OutOfRange (raw a)) → t.errinfo.toNat = b.toNat ∧ t.errcause = 0x80000002) ∧
      (¬(∃ a, OutOfRange (raw a)) → t.errinfo = s.errinfo ∧ t.errcause = s.errcause) ∧
      KeepsRegs (fun r => ¬isRecord r ∧ r ≠ .decState ∧ r ≠ .inputs ∧ r ≠ .framesOk ∧ (∀ k, r ≠ .ch k) ∧
        ∀ a, r ≠ .axis a .sp) s t ∧ t.mode = .aligned ∧ t.cnt = 0

/-- The scan (43_decoder.md R131, R134): in SCAN0 and SCAN1 a byte changes no register but DEC_STATE; H0 then H1 on two
consecutive bytes start a frame with bytes 0 and 1 held and cnt = 2; in SCAN1 the test for H1 comes before the test for H0. -/
def Obligations.ScanFindsHeaderPair : Prop :=
  ∀ (b : Byte) (s : State), s.mode ≠ .aligned →
    let t := rxByte b s
    KeepsRegs (fun r => r ≠ .decState) s t ∧
      (s.mode = .scan0 → (b = s.h0 → t.mode = .scan1) ∧ (b ≠ s.h0 → t.mode = .scan0) ∧ t.cnt = s.cnt ∧ t.buf = s.buf) ∧
      (s.mode = .scan1 →
        (b = s.h1 → t.mode = .aligned ∧ t.cnt = 2 ∧ t.buf[0] = s.h0 ∧ t.buf[1] = s.h1) ∧
        (b ≠ s.h1 → t.cnt = s.cnt ∧ t.buf = s.buf ∧ (b = s.h0 → t.mode = .scan1) ∧ (b ≠ s.h0 → t.mode = .scan0)))

/-- R143: every RxByte event completes in every mode, as do all the bytes of any sequence, and no decoder event raises an error
bit other than OVF. -/
def Obligations.ReceiverNeverStops : Prop :=
  (∀ (b : Byte) (s : State), ∀ n < 6, n ≠ 2 → (rxByte b s).status.getLsbD n = s.status.getLsbD n) ∧
  ∀ (bytes : List Byte) (s : State), s.seenReset = true →
    ∃ t : State, runSteps bytes.length (s.receiving bytes) = .next t ∧ t.arrivals = [] ∧
      ∀ n < 6, n ≠ 2 → t.status.getLsbD n = s.status.getLsbD n

/-- The frame of any channel values, built by 30_encoding.md R83 and R84 with the current HDR and CTRL.BE and received from an
aligned start, is published: the 32 bytes decode back to exactly those channel values, and SP and EN come from the channels that
CHMAP names. -/
def Obligations.FrameRoundTrip : Prop :=
  ∀ (s : State) (ch : Vector Chan 14), s.seenReset = true → s.mode = .aligned → s.cnt = 0 →
    ∃ t : State, runSteps 32 (s.receiving (frameBytes s.h0 s.h1 s.be ch)) = .next t ∧ t.ch = ch ∧
      t.framesOk = s.framesOk + 1 ∧ t.csumErrs = s.csumErrs ∧ t.resyncs = s.resyncs ∧ t.mode = .aligned ∧ t.cnt = 0 ∧
      (∀ a, (t.read (.axis a .sp)).toInt =
        sat32 (fxmul (normalise ch[s.designated (chmapPlace a)]) (s.read (.axis a .sens)).toInt)) ∧
      (t.en = true ↔ 1801 ≤ (ch[s.designated enchPlace]).toNat)

/-- The resync property (43_decoder.md R144): from ALIGNED with cnt = 0 and HDR_EN = 1, a corrupted frame whose header is bad,
or whose header is intact and whose checksum is bad, followed by a valid frame, ends with the valid frame published, CH, SP and EN
all from it; and at no point before its last byte are CH, SP or EN changed. -/
def Obligations.ValidFrameAfterCorruptedIsPublished : Prop :=
  ∀ (s : State) (bad : Vector Byte 32) (ch : Vector Chan 14), s.seenReset = true → s.mode = .aligned → s.cnt = 0 →
    s.hdrEn = true →
    let badHeader := bad[0] ≠ s.h0 ∨ bad[1] ≠ s.h1
    badHeader ∨ checksumOk s.be bad = false →
    let input := s.receiving (bad.toList ++ frameBytes s.h0 s.h1 s.be ch)
    (∃ t : State, runSteps 64 input = .next t ∧ t.ch = ch ∧ t.framesOk = s.framesOk + 1 ∧ t.mode = .aligned ∧ t.cnt = 0 ∧
      (∀ a, (t.read (.axis a .sp)).toInt =
        sat32 (fxmul (normalise ch[s.designated (chmapPlace a)]) (s.read (.axis a .sens)).toInt)) ∧
      (t.en = true ↔ 1801 ≤ (ch[s.designated enchPlace]).toNat) ∧
      (badHeader → t.resyncs = s.resyncs + 1 ∧ t.csumErrs = s.csumErrs) ∧
      (¬badHeader → t.csumErrs = s.csumErrs + 1 ∧ t.resyncs = s.resyncs)) ∧
    ∀ k < 64, ∀ u : State, runSteps k input = .next u → SamePublished s u

/-- Without a header the decoder never enters resync from ALIGNED (43_decoder.md R142). -/
def Obligations.NoHeaderNeverResyncs : Prop :=
  ∀ (b : Byte) (s : State), s.mode = .aligned → s.hdrEn = false →
    (rxByte b s).mode = .aligned ∧ (rxByte b s).resyncs = s.resyncs ∧
      (rxByte b s).status.getLsbD 8 = s.status.getLsbD 8

/-- Frame-buffer bytes at index >= cnt are never read (10_state.md R37): two states that differ at most in such bytes take the
same kind of step to two states that differ at most in such bytes. -/
def Obligations.StaleBytesAreNeverRead : Prop :=
  ∀ s s' t : State, SameButStale s s' → step s = .next t → ∃ t', step s' = .next t' ∧ SameButStale t t'

/-- R85: the worked frame, every channel 1500 with the reset header. -/
def Obligations.WorkedFrameBytes : Prop :=
  frameBytes 0x20 0x40 false (Vector.replicate 14 1500) =
      [0x20, 0x40] ++ (List.replicate 14 [0xDC, 0x05]).flatten ++ [0x51, 0xF3] ∧
    ((frameBody 0x20 0x40 false (Vector.replicate 14 1500)).map BitVec.toNat).sum = 0x0CAE ∧
    bodyChecksum (frameBody 0x20 0x40 false (Vector.replicate 14 1500)) = 0xF351

/-! ## The host bus (20_memory.md) -/

/-- The register map (20_memory.md R53): every register is reached at its address with a 4-byte access, and every legal access
is a 4-byte access to the address of the register it reaches, so no two registers share an address. -/
def Obligations.RegisterMapRoundTrip : Prop :=
  (∀ r : Reg, r.address < 4096 ∧ legalReg (BitVec.ofNat 12 r.address) 4 = some r) ∧
  ∀ (addr : Addr) (size : Nat) (r : Reg), legalReg addr size = some r → size = 4 ∧ addr.toNat = r.address

/-- An access is legal only with size 4, at a 4-aligned, mapped address. An illegal one raises BUS_ERR with the byte address and
changes nothing else; a read then returns 0 (20_memory.md R52, R58). -/
def Obligations.IllegalAccessOnlyRaisesBusErr : Prop :=
  ∀ (addr : Addr) (size : Nat) (s : State),
    (size ≠ 4 ∨ addr.toNat % 4 ≠ 0 ∨ ¬∃ r : Reg, r.address = addr.toNat) →
    (∃ t, hostAccess (.read addr size) s = .next t ∧ t.readData = some 0 ∧
      OnlyRecords .busErr (addr.setWidth 32) s { t with readData := s.readData }) ∧
    ∀ data, ∃ t, hostAccess (.write addr size data) s = .next t ∧ OnlyRecords .busErr (addr.setWidth 32) s t

/-- R54: in every state that meets the invariant a legal read returns the register's current value with reserved bits 0, the WO registers read 0, and no state
changes. -/
def Obligations.LegalReadHasNoSideEffect : Prop :=
  ∀ (r : Reg) (s : State), LegalState s →
    hostAccess (.read (BitVec.ofNat 12 r.address) 4) s = .next { s with readData := some (s.read r) } ∧
    s.read r &&& ~~~r.mask = 0 ∧ s.read .cmd = 0 ∧ s.read .rxdata = 0

/-- A legal write of an RW register, or of an unlocked RW-L register other than CHMAP, makes it read as the data with the
reserved bits forced to 0 and changes no other register (20_memory.md R55). -/
def Obligations.WriteThenReadReturnsData : Prop :=
  ∀ (r : Reg) (w : Word) (s : State), r ≠ .chmap → (r.access = .rw ∨ (r.access = .rwl ∧ s.lock = false)) →
    ∃ t, hostAccess (.write (BitVec.ofNat 12 r.address) 4 w) s = .next t ∧ t.read r = w &&& r.mask ∧
      KeepsRegs (fun q => q ≠ r) s t ∧ SameHidden s t

/-- A write to an RO register raises BUS_ERR, and a write to an RW-L register while LOCK = 1 raises LOCK_ERR; neither has any
other effect (20_memory.md R55). -/
def Obligations.RefusedWriteOnlyRaises : Prop :=
  ∀ (r : Reg) (w : Word) (s : State),
    (r.access = .ro → ∃ t, hostAccess (.write (BitVec.ofNat 12 r.address) 4 w) s = .next t ∧
      OnlyRecords .busErr (BitVec.ofNat 32 r.address) s t) ∧
    (r.access = .rwl → s.lock = true → ∃ t, hostAccess (.write (BitVec.ofNat 12 r.address) 4 w) s = .next t ∧
      OnlyRecords .lockErr (BitVec.ofNat 32 r.address) s t)

/-- R66: an unlocked write to CHMAP with a field of 14 or 15 is ignored as a whole and raises BUS_ERR with ERRINFO = 0x304; with
every field at most 13 it is stored with the reserved bits 0. -/
def Obligations.ChmapWriteIsCheckedByField : Prop :=
  ∀ (w : Word) (s : State), s.lock = false →
    let legal := ∀ lo ∈ [0, 4, 8, 12, 16], (w.extractLsb' lo 4).toNat ≤ 13
    (¬legal → ∃ t, hostAccess (.write 0x304 4 w) s = .next t ∧ OnlyRecords .busErr 0x304 s t) ∧
    (legal → ∃ t, hostAccess (.write 0x304 4 w) s = .next t ∧ t.read .chmap = w &&& 0xFFFFF ∧
      KeepsRegs (fun r => r ≠ .chmap) s t ∧ SameHidden s t)

/-- A write of STATUS clears exactly the bits 8:0 written as 1 and changes nothing else, ERRINFO and ERRCAUSE included
(20_memory.md R55, 60_exceptions.md R167). -/
def Obligations.StatusWriteClearsOnes : Prop :=
  ∀ (w : Word) (s : State), ∃ t, hostAccess (.write 0x008 4 w) s = .next t ∧
    (∀ n < 32, t.status.getLsbD n = (s.status.getLsbD n && !(w.getLsbD n && decide (n ≤ 8)))) ∧
    KeepsRegs (fun r => r ≠ .status) s t ∧ SameHidden s t

/-- A write to RXDATA is the event RxByte(w[7:0]): bits 31:8 are ignored (10_state.md R39, 43_decoder.md R130). -/
def Obligations.RxdataWriteIsRxByte : Prop :=
  ∀ (w : Word) (s : State) (rest : List Arrival), s.seenReset = true →
    s.arrivals = .one (.host (.write 0x308 4 w)) :: rest →
    step s = step { s with arrivals := .one (.rxByte (w.extractLsb' 0 8)) :: rest }

/-! ## Errors and the interrupt (60_exceptions.md) -/

/-- R162: raising an error sets its STATUS bit, ERRINFO and ERRCAUSE and nothing else; an event bit is set alone. -/
def Obligations.RaiseWritesThreeRecords : Prop :=
  (∀ (c : Cause) (info : Word) (s : State), OnlyRecords c info s (raiseError c info s)) ∧
  ∀ (e : DecEvent) (s : State), (∀ n < 32, (signalEvent e s).status.getLsbD n = (s.status.getLsbD n || n == e.code)) ∧
    KeepsRegs (fun r => r ≠ .status) s (signalEvent e s) ∧ SameHidden s (signalEvent e s)

/-- The irq level is 1 exactly if some bit 0..8 is set in both STATUS and IRQEN (60_exceptions.md R165): the level follows any
write of IRQEN, which clears no STATUS bit, and clearing every enabled STATUS bit or Reset lowers it. -/
def Obligations.IrqIsLevelOfEnabledCauses : Prop :=
  (∀ s : State, s.irq = true ↔ ∃ n ≤ 8, s.status.getLsbD n = true ∧ s.irqen.getLsbD n = true) ∧
  (∀ (w : Word) (s : State), ∃ t, hostAccess (.write 0x00C 4 w) s = .next t ∧ t.status = s.status ∧
    (t.irq = true ↔ ∃ n ≤ 8, s.status.getLsbD n = true ∧ w.getLsbD n = true)) ∧
  (∀ s : State, ∃ t, hostAccess (.write 0x008 4 s.irqen) s = .next t ∧ t.irq = false) ∧
  ∀ s : State, ∃ t, perform .reset s = .next t ∧ t.irq = false

/-- STATUS bits are sticky (10_state.md R22): only a host write of STATUS or Reset clears one. -/
def Obligations.StatusBitsAreSticky : Prop :=
  ∀ s t : State, step s = .next t → s.upcoming ≠ some .reset → ¬writesReg .status s →
    ∀ n, s.status.getLsbD n = true → t.status.getLsbD n = true

/-! ## Reset, the lock, and the whole machine -/

/-- Reset sets every piece of the block's state to its reset value from every state, whatever happened before it; what the
inputs present next stays (70_reset_and_hazards.md R180; log 5). -/
def Obligations.ResetRestoresEverything : Prop :=
  ∀ (s : State) (rest : List Arrival), s.arrivals = .one .reset :: rest →
    step s = .next { State.reset with arrivals := rest, ties := s.ties }

/-- R41: the reset value of every register, of the decoder's hidden state and of the outputs. -/
def Obligations.ResetValues : Prop :=
  (∀ r : Reg, State.reset.read r = match r with
    | .id => 0x41554B31
    | .ctrl => 0x00000004
    | .hdr => 0x00004020
    | .chmap => 0x00042310
    | _ => 0) ∧
  State.reset.mode = .aligned ∧ State.reset.cnt = 0 ∧ (∀ i : Fin 32, State.reset.buf[i] = 0) ∧
  State.reset.irq = false ∧ ∀ i, State.reset.actPort i = 0

/-- Before the first Reset every event but Reset is refused, and Reset is performed (70_reset_and_hazards.md R182). -/
def Obligations.NothingRunsBeforeReset : Prop :=
  ∀ (s : State) (e : Event), s.seenReset = false → s.upcoming = some e →
    (e ≠ .reset → step s = .refused .beforeFirstReset) ∧
    (e = .reset → ∃ t, step s = .next t ∧ t.seenReset = true)

/-- Two events that arrive together are performed one after the other in one of the two orders (20_memory.md R60); which one is
the free value of log 2, and nothing is said of its value. -/
def Obligations.TieIsOneOfBothOrders : Prop :=
  ∀ (s : State) (h : HostAccess) (b : Byte) (rest : List Arrival), s.arrivals = .tie h b :: rest →
    step s = step { s with arrivals := .one (.rxByte b) :: .one (.host h) :: rest, ties := s.ties + 1 } ∨
    step s = step { s with arrivals := .one (.host h) :: .one (.rxByte b) :: rest, ties := s.ties + 1 }

/-- The state after Reset meets the invariant. -/
def Obligations.InvariantHoldsAtReset : Prop := LegalState State.reset

/-- Every step keeps the invariant: reserved bits read 0, ERRCAUSE is 0 or VALID with an error code (10_state.md R38), CNT is 0
whenever MODE is not ALIGNED (10_state.md R42). -/
def Obligations.StepKeepsInvariant : Prop := ∀ s t : State, LegalState s → step s = .next t → LegalState t

/-- The lock (10_state.md R21, 60_exceptions.md R169): once LOCK = 1, no event but Reset changes any RW-L register, LOCK
included, so a run without Reset keeps the whole configuration. -/
def Obligations.LockedConfigurationIsImmutable : Prop :=
  ∀ (n : Nat) (s t : State), s.lock = true →
    (∀ k < n, ∀ u, runSteps k s = .next u → u.upcoming ≠ some .reset) → runSteps n s = .next t →
    t.lock = true ∧ ∀ r : Reg, r.access = .rwl → t.read r = s.read r

/-- Nothing stops the block (60_exceptions.md R160, R174): after a Reset every run of any length over any inputs completes,
whatever errors its events raise. -/
def Obligations.NoRunStopsAfterReset : Prop :=
  ∀ (k : Nat) (s : State), s.seenReset = true → SafeRun k s

/-- Who writes what: besides Reset, ACT only by MIX and TICK (10_state.md R30), ITERM only by PID.UPDATE, PID.RESET,
PID.RESETALL and TICK, PIDOUT and LASTERR only by PID.UPDATE and an enabled TICK (R27), MEAS only by a host write of that
register (R26), CH and FRAMES_OK only by the publication of a frame (R34, R35). -/
def Obligations.OnlyNamedEventsWriteOutputs : Prop :=
  ∀ s t : State, step s = .next t → s.upcoming ≠ some .reset →
    ((¬issues .tick s ∧ ∀ src, ¬issues (.mix src) s) → ∀ i, t.read (.act i) = s.read (.act i)) ∧
    (∀ a, (¬issues .tick s ∧ ¬issues .pidResetAll s ∧ ¬issues (.pidReset a) s ∧ ¬issues (.pidUpdate a) s) →
      t.read (.axis a .iterm) = s.read (.axis a .iterm)) ∧
    (∀ a, (¬(issues .tick s ∧ (s.read .inputs).getLsbD 0 = true) ∧ ¬issues (.pidUpdate a) s) →
      t.read (.axis a .pidout) = s.read (.axis a .pidout) ∧ t.read (.axis a .lasterr) = s.read (.axis a .lasterr)) ∧
    (∀ a, ¬writesReg (.axis a .meas) s → t.read (.axis a .meas) = s.read (.axis a .meas)) ∧
    (¬publishes s → (∀ k, t.read (.ch k) = s.read (.ch k)) ∧ t.read .framesOk = s.read .framesOk)
end

