-- ==== Sys2Proof/Laws/State.lean ====
section
/-! SUPPORT. The small lemmas of State: one per field per update, and the copies of PerAxis and PerActuator. -/

namespace Sys2Proof.Machine

variable (s : State)

@[simp] theorem setBank_seenReset (a : Axis) (b : AxisBank) : (s.setBank a b).seenReset = s.seenReset := rfl
@[simp] theorem setBank_ctrl (a : Axis) (b : AxisBank) : (s.setBank a b).ctrl = s.ctrl := rfl
@[simp] theorem setBank_status (a : Axis) (b : AxisBank) : (s.setBank a b).status = s.status := rfl
@[simp] theorem setBank_irqen (a : Axis) (b : AxisBank) : (s.setBank a b).irqen = s.irqen := rfl
@[simp] theorem setBank_dt (a : Axis) (b : AxisBank) : (s.setBank a b).dt = s.dt := rfl
@[simp] theorem setBank_inputs (a : Axis) (b : AxisBank) : (s.setBank a b).inputs = s.inputs := rfl
@[simp] theorem setBank_errinfo (a : Axis) (b : AxisBank) : (s.setBank a b).errinfo = s.errinfo := rfl
@[simp] theorem setBank_errcause (a : Axis) (b : AxisBank) : (s.setBank a b).errcause = s.errcause := rfl
@[simp] theorem setBank_axes (a : Axis) (b : AxisBank) : (s.setBank a b).axes = s.axes.set a b := rfl
@[simp] theorem setBank_matrix (a : Axis) (b : AxisBank) : (s.setBank a b).matrix = s.matrix := rfl
@[simp] theorem setBank_act (a : Axis) (b : AxisBank) : (s.setBank a b).act = s.act := rfl
@[simp] theorem setBank_mixin (a : Axis) (b : AxisBank) : (s.setBank a b).mixin = s.mixin := rfl
@[simp] theorem setBank_hdr (a : Axis) (b : AxisBank) : (s.setBank a b).hdr = s.hdr := rfl
@[simp] theorem setBank_chmap (a : Axis) (b : AxisBank) : (s.setBank a b).chmap = s.chmap := rfl
@[simp] theorem setBank_ch (a : Axis) (b : AxisBank) : (s.setBank a b).ch = s.ch := rfl
@[simp] theorem setBank_framesOk (a : Axis) (b : AxisBank) : (s.setBank a b).framesOk = s.framesOk := rfl
@[simp] theorem setBank_csumErrs (a : Axis) (b : AxisBank) : (s.setBank a b).csumErrs = s.csumErrs := rfl
@[simp] theorem setBank_resyncs (a : Axis) (b : AxisBank) : (s.setBank a b).resyncs = s.resyncs := rfl
@[simp] theorem setBank_mode (a : Axis) (b : AxisBank) : (s.setBank a b).mode = s.mode := rfl
@[simp] theorem setBank_cnt (a : Axis) (b : AxisBank) : (s.setBank a b).cnt = s.cnt := rfl
@[simp] theorem setBank_buf (a : Axis) (b : AxisBank) : (s.setBank a b).buf = s.buf := rfl
@[simp] theorem setBank_readData (a : Axis) (b : AxisBank) : (s.setBank a b).readData = s.readData := rfl
@[simp] theorem setBank_arrivals (a : Axis) (b : AxisBank) : (s.setBank a b).arrivals = s.arrivals := rfl
@[simp] theorem setBank_ties (a : Axis) (b : AxisBank) : (s.setBank a b).ties = s.ties := rfl

@[simp] theorem mapBanks_seenReset (f : Axis → AxisBank) : (s.mapBanks f).seenReset = s.seenReset := rfl
@[simp] theorem mapBanks_ctrl (f : Axis → AxisBank) : (s.mapBanks f).ctrl = s.ctrl := rfl
@[simp] theorem mapBanks_status (f : Axis → AxisBank) : (s.mapBanks f).status = s.status := rfl
@[simp] theorem mapBanks_irqen (f : Axis → AxisBank) : (s.mapBanks f).irqen = s.irqen := rfl
@[simp] theorem mapBanks_dt (f : Axis → AxisBank) : (s.mapBanks f).dt = s.dt := rfl
@[simp] theorem mapBanks_inputs (f : Axis → AxisBank) : (s.mapBanks f).inputs = s.inputs := rfl
@[simp] theorem mapBanks_errinfo (f : Axis → AxisBank) : (s.mapBanks f).errinfo = s.errinfo := rfl
@[simp] theorem mapBanks_errcause (f : Axis → AxisBank) : (s.mapBanks f).errcause = s.errcause := rfl
@[simp] theorem mapBanks_axes (f : Axis → AxisBank) : (s.mapBanks f).axes = PerAxis.gen f := rfl
@[simp] theorem mapBanks_matrix (f : Axis → AxisBank) : (s.mapBanks f).matrix = s.matrix := rfl
@[simp] theorem mapBanks_act (f : Axis → AxisBank) : (s.mapBanks f).act = s.act := rfl
@[simp] theorem mapBanks_mixin (f : Axis → AxisBank) : (s.mapBanks f).mixin = s.mixin := rfl
@[simp] theorem mapBanks_hdr (f : Axis → AxisBank) : (s.mapBanks f).hdr = s.hdr := rfl
@[simp] theorem mapBanks_chmap (f : Axis → AxisBank) : (s.mapBanks f).chmap = s.chmap := rfl
@[simp] theorem mapBanks_ch (f : Axis → AxisBank) : (s.mapBanks f).ch = s.ch := rfl
@[simp] theorem mapBanks_framesOk (f : Axis → AxisBank) : (s.mapBanks f).framesOk = s.framesOk := rfl
@[simp] theorem mapBanks_csumErrs (f : Axis → AxisBank) : (s.mapBanks f).csumErrs = s.csumErrs := rfl
@[simp] theorem mapBanks_resyncs (f : Axis → AxisBank) : (s.mapBanks f).resyncs = s.resyncs := rfl
@[simp] theorem mapBanks_mode (f : Axis → AxisBank) : (s.mapBanks f).mode = s.mode := rfl
@[simp] theorem mapBanks_cnt (f : Axis → AxisBank) : (s.mapBanks f).cnt = s.cnt := rfl
@[simp] theorem mapBanks_buf (f : Axis → AxisBank) : (s.mapBanks f).buf = s.buf := rfl
@[simp] theorem mapBanks_readData (f : Axis → AxisBank) : (s.mapBanks f).readData = s.readData := rfl
@[simp] theorem mapBanks_arrivals (f : Axis → AxisBank) : (s.mapBanks f).arrivals = s.arrivals := rfl
@[simp] theorem mapBanks_ties (f : Axis → AxisBank) : (s.mapBanks f).ties = s.ties := rfl

@[simp] theorem setAct_seenReset (f : Actuator → Int) : (s.setAct f).seenReset = s.seenReset := rfl
@[simp] theorem setAct_ctrl (f : Actuator → Int) : (s.setAct f).ctrl = s.ctrl := rfl
@[simp] theorem setAct_status (f : Actuator → Int) : (s.setAct f).status = s.status := rfl
@[simp] theorem setAct_irqen (f : Actuator → Int) : (s.setAct f).irqen = s.irqen := rfl
@[simp] theorem setAct_dt (f : Actuator → Int) : (s.setAct f).dt = s.dt := rfl
@[simp] theorem setAct_inputs (f : Actuator → Int) : (s.setAct f).inputs = s.inputs := rfl
@[simp] theorem setAct_errinfo (f : Actuator → Int) : (s.setAct f).errinfo = s.errinfo := rfl
@[simp] theorem setAct_errcause (f : Actuator → Int) : (s.setAct f).errcause = s.errcause := rfl
@[simp] theorem setAct_axes (f : Actuator → Int) : (s.setAct f).axes = s.axes := rfl
@[simp] theorem setAct_matrix (f : Actuator → Int) : (s.setAct f).matrix = s.matrix := rfl
@[simp] theorem setAct_act (f : Actuator → Int) : (s.setAct f).act = PerActuator.gen fun i => ofS32 (f i) := rfl
@[simp] theorem setAct_mixin (f : Actuator → Int) : (s.setAct f).mixin = s.mixin := rfl
@[simp] theorem setAct_hdr (f : Actuator → Int) : (s.setAct f).hdr = s.hdr := rfl
@[simp] theorem setAct_chmap (f : Actuator → Int) : (s.setAct f).chmap = s.chmap := rfl
@[simp] theorem setAct_ch (f : Actuator → Int) : (s.setAct f).ch = s.ch := rfl
@[simp] theorem setAct_framesOk (f : Actuator → Int) : (s.setAct f).framesOk = s.framesOk := rfl
@[simp] theorem setAct_csumErrs (f : Actuator → Int) : (s.setAct f).csumErrs = s.csumErrs := rfl
@[simp] theorem setAct_resyncs (f : Actuator → Int) : (s.setAct f).resyncs = s.resyncs := rfl
@[simp] theorem setAct_mode (f : Actuator → Int) : (s.setAct f).mode = s.mode := rfl
@[simp] theorem setAct_cnt (f : Actuator → Int) : (s.setAct f).cnt = s.cnt := rfl
@[simp] theorem setAct_buf (f : Actuator → Int) : (s.setAct f).buf = s.buf := rfl
@[simp] theorem setAct_readData (f : Actuator → Int) : (s.setAct f).readData = s.readData := rfl
@[simp] theorem setAct_arrivals (f : Actuator → Int) : (s.setAct f).arrivals = s.arrivals := rfl
@[simp] theorem setAct_ties (f : Actuator → Int) : (s.setAct f).ties = s.ties := rfl

@[simp] theorem raiseError_seenReset (c : Cause) (w : Word) : (raiseError c w s).seenReset = s.seenReset := rfl
@[simp] theorem raiseError_ctrl (c : Cause) (w : Word) : (raiseError c w s).ctrl = s.ctrl := rfl
@[simp] theorem raiseError_status (c : Cause) (w : Word) : (raiseError c w s).status = s.status ||| bitWord c.code := rfl
@[simp] theorem raiseError_irqen (c : Cause) (w : Word) : (raiseError c w s).irqen = s.irqen := rfl
@[simp] theorem raiseError_dt (c : Cause) (w : Word) : (raiseError c w s).dt = s.dt := rfl
@[simp] theorem raiseError_inputs (c : Cause) (w : Word) : (raiseError c w s).inputs = s.inputs := rfl
@[simp] theorem raiseError_errinfo (c : Cause) (w : Word) : (raiseError c w s).errinfo = w := rfl
@[simp] theorem raiseError_errcause (c : Cause) (w : Word) : (raiseError c w s).errcause = bitWord 31 ||| BitVec.ofNat 32 c.code := rfl
@[simp] theorem raiseError_axes (c : Cause) (w : Word) : (raiseError c w s).axes = s.axes := rfl
@[simp] theorem raiseError_matrix (c : Cause) (w : Word) : (raiseError c w s).matrix = s.matrix := rfl
@[simp] theorem raiseError_act (c : Cause) (w : Word) : (raiseError c w s).act = s.act := rfl
@[simp] theorem raiseError_mixin (c : Cause) (w : Word) : (raiseError c w s).mixin = s.mixin := rfl
@[simp] theorem raiseError_hdr (c : Cause) (w : Word) : (raiseError c w s).hdr = s.hdr := rfl
@[simp] theorem raiseError_chmap (c : Cause) (w : Word) : (raiseError c w s).chmap = s.chmap := rfl
@[simp] theorem raiseError_ch (c : Cause) (w : Word) : (raiseError c w s).ch = s.ch := rfl
@[simp] theorem raiseError_framesOk (c : Cause) (w : Word) : (raiseError c w s).framesOk = s.framesOk := rfl
@[simp] theorem raiseError_csumErrs (c : Cause) (w : Word) : (raiseError c w s).csumErrs = s.csumErrs := rfl
@[simp] theorem raiseError_resyncs (c : Cause) (w : Word) : (raiseError c w s).resyncs = s.resyncs := rfl
@[simp] theorem raiseError_mode (c : Cause) (w : Word) : (raiseError c w s).mode = s.mode := rfl
@[simp] theorem raiseError_cnt (c : Cause) (w : Word) : (raiseError c w s).cnt = s.cnt := rfl
@[simp] theorem raiseError_buf (c : Cause) (w : Word) : (raiseError c w s).buf = s.buf := rfl
@[simp] theorem raiseError_readData (c : Cause) (w : Word) : (raiseError c w s).readData = s.readData := rfl
@[simp] theorem raiseError_arrivals (c : Cause) (w : Word) : (raiseError c w s).arrivals = s.arrivals := rfl
@[simp] theorem raiseError_ties (c : Cause) (w : Word) : (raiseError c w s).ties = s.ties := rfl

@[simp] theorem signalEvent_seenReset (e : DecEvent) : (signalEvent e s).seenReset = s.seenReset := rfl
@[simp] theorem signalEvent_ctrl (e : DecEvent) : (signalEvent e s).ctrl = s.ctrl := rfl
@[simp] theorem signalEvent_status (e : DecEvent) : (signalEvent e s).status = s.status ||| bitWord e.code := rfl
@[simp] theorem signalEvent_irqen (e : DecEvent) : (signalEvent e s).irqen = s.irqen := rfl
@[simp] theorem signalEvent_dt (e : DecEvent) : (signalEvent e s).dt = s.dt := rfl
@[simp] theorem signalEvent_inputs (e : DecEvent) : (signalEvent e s).inputs = s.inputs := rfl
@[simp] theorem signalEvent_errinfo (e : DecEvent) : (signalEvent e s).errinfo = s.errinfo := rfl
@[simp] theorem signalEvent_errcause (e : DecEvent) : (signalEvent e s).errcause = s.errcause := rfl
@[simp] theorem signalEvent_axes (e : DecEvent) : (signalEvent e s).axes = s.axes := rfl
@[simp] theorem signalEvent_matrix (e : DecEvent) : (signalEvent e s).matrix = s.matrix := rfl
@[simp] theorem signalEvent_act (e : DecEvent) : (signalEvent e s).act = s.act := rfl
@[simp] theorem signalEvent_mixin (e : DecEvent) : (signalEvent e s).mixin = s.mixin := rfl
@[simp] theorem signalEvent_hdr (e : DecEvent) : (signalEvent e s).hdr = s.hdr := rfl
@[simp] theorem signalEvent_chmap (e : DecEvent) : (signalEvent e s).chmap = s.chmap := rfl
@[simp] theorem signalEvent_ch (e : DecEvent) : (signalEvent e s).ch = s.ch := rfl
@[simp] theorem signalEvent_framesOk (e : DecEvent) : (signalEvent e s).framesOk = s.framesOk := rfl
@[simp] theorem signalEvent_csumErrs (e : DecEvent) : (signalEvent e s).csumErrs = s.csumErrs := rfl
@[simp] theorem signalEvent_resyncs (e : DecEvent) : (signalEvent e s).resyncs = s.resyncs := rfl
@[simp] theorem signalEvent_mode (e : DecEvent) : (signalEvent e s).mode = s.mode := rfl
@[simp] theorem signalEvent_cnt (e : DecEvent) : (signalEvent e s).cnt = s.cnt := rfl
@[simp] theorem signalEvent_buf (e : DecEvent) : (signalEvent e s).buf = s.buf := rfl
@[simp] theorem signalEvent_readData (e : DecEvent) : (signalEvent e s).readData = s.readData := rfl
@[simp] theorem signalEvent_arrivals (e : DecEvent) : (signalEvent e s).arrivals = s.arrivals := rfl
@[simp] theorem signalEvent_ties (e : DecEvent) : (signalEvent e s).ties = s.ties := rfl

@[simp] theorem acknowledge_seenReset (w : Word) : (acknowledge w s).seenReset = s.seenReset := rfl
@[simp] theorem acknowledge_ctrl (w : Word) : (acknowledge w s).ctrl = s.ctrl := rfl
@[simp] theorem acknowledge_status (w : Word) : (acknowledge w s).status = s.status &&& ~~~(w &&& statusMask) := rfl
@[simp] theorem acknowledge_irqen (w : Word) : (acknowledge w s).irqen = s.irqen := rfl
@[simp] theorem acknowledge_dt (w : Word) : (acknowledge w s).dt = s.dt := rfl
@[simp] theorem acknowledge_inputs (w : Word) : (acknowledge w s).inputs = s.inputs := rfl
@[simp] theorem acknowledge_errinfo (w : Word) : (acknowledge w s).errinfo = s.errinfo := rfl
@[simp] theorem acknowledge_errcause (w : Word) : (acknowledge w s).errcause = s.errcause := rfl
@[simp] theorem acknowledge_axes (w : Word) : (acknowledge w s).axes = s.axes := rfl
@[simp] theorem acknowledge_matrix (w : Word) : (acknowledge w s).matrix = s.matrix := rfl
@[simp] theorem acknowledge_act (w : Word) : (acknowledge w s).act = s.act := rfl
@[simp] theorem acknowledge_mixin (w : Word) : (acknowledge w s).mixin = s.mixin := rfl
@[simp] theorem acknowledge_hdr (w : Word) : (acknowledge w s).hdr = s.hdr := rfl
@[simp] theorem acknowledge_chmap (w : Word) : (acknowledge w s).chmap = s.chmap := rfl
@[simp] theorem acknowledge_ch (w : Word) : (acknowledge w s).ch = s.ch := rfl
@[simp] theorem acknowledge_framesOk (w : Word) : (acknowledge w s).framesOk = s.framesOk := rfl
@[simp] theorem acknowledge_csumErrs (w : Word) : (acknowledge w s).csumErrs = s.csumErrs := rfl
@[simp] theorem acknowledge_resyncs (w : Word) : (acknowledge w s).resyncs = s.resyncs := rfl
@[simp] theorem acknowledge_mode (w : Word) : (acknowledge w s).mode = s.mode := rfl
@[simp] theorem acknowledge_cnt (w : Word) : (acknowledge w s).cnt = s.cnt := rfl
@[simp] theorem acknowledge_buf (w : Word) : (acknowledge w s).buf = s.buf := rfl
@[simp] theorem acknowledge_readData (w : Word) : (acknowledge w s).readData = s.readData := rfl
@[simp] theorem acknowledge_arrivals (w : Word) : (acknowledge w s).arrivals = s.arrivals := rfl
@[simp] theorem acknowledge_ties (w : Word) : (acknowledge w s).ties = s.ties := rfl

@[simp] theorem clearResponse_seenReset : (clearResponse s).seenReset = s.seenReset := rfl
@[simp] theorem clearResponse_ctrl : (clearResponse s).ctrl = s.ctrl := rfl
@[simp] theorem clearResponse_status : (clearResponse s).status = s.status := rfl
@[simp] theorem clearResponse_irqen : (clearResponse s).irqen = s.irqen := rfl
@[simp] theorem clearResponse_dt : (clearResponse s).dt = s.dt := rfl
@[simp] theorem clearResponse_inputs : (clearResponse s).inputs = s.inputs := rfl
@[simp] theorem clearResponse_errinfo : (clearResponse s).errinfo = s.errinfo := rfl
@[simp] theorem clearResponse_errcause : (clearResponse s).errcause = s.errcause := rfl
@[simp] theorem clearResponse_axes : (clearResponse s).axes = s.axes := rfl
@[simp] theorem clearResponse_matrix : (clearResponse s).matrix = s.matrix := rfl
@[simp] theorem clearResponse_act : (clearResponse s).act = s.act := rfl
@[simp] theorem clearResponse_mixin : (clearResponse s).mixin = s.mixin := rfl
@[simp] theorem clearResponse_hdr : (clearResponse s).hdr = s.hdr := rfl
@[simp] theorem clearResponse_chmap : (clearResponse s).chmap = s.chmap := rfl
@[simp] theorem clearResponse_ch : (clearResponse s).ch = s.ch := rfl
@[simp] theorem clearResponse_framesOk : (clearResponse s).framesOk = s.framesOk := rfl
@[simp] theorem clearResponse_csumErrs : (clearResponse s).csumErrs = s.csumErrs := rfl
@[simp] theorem clearResponse_resyncs : (clearResponse s).resyncs = s.resyncs := rfl
@[simp] theorem clearResponse_mode : (clearResponse s).mode = s.mode := rfl
@[simp] theorem clearResponse_cnt : (clearResponse s).cnt = s.cnt := rfl
@[simp] theorem clearResponse_buf : (clearResponse s).buf = s.buf := rfl
@[simp] theorem clearResponse_readData : (clearResponse s).readData = none := rfl
@[simp] theorem clearResponse_arrivals : (clearResponse s).arrivals = s.arrivals := rfl
@[simp] theorem clearResponse_ties : (clearResponse s).ties = s.ties := rfl

@[simp] theorem storeByte_seenReset (b : Byte) : (storeByte b s).seenReset = s.seenReset := rfl
@[simp] theorem storeByte_ctrl (b : Byte) : (storeByte b s).ctrl = s.ctrl := rfl
@[simp] theorem storeByte_status (b : Byte) : (storeByte b s).status = s.status := rfl
@[simp] theorem storeByte_irqen (b : Byte) : (storeByte b s).irqen = s.irqen := rfl
@[simp] theorem storeByte_dt (b : Byte) : (storeByte b s).dt = s.dt := rfl
@[simp] theorem storeByte_inputs (b : Byte) : (storeByte b s).inputs = s.inputs := rfl
@[simp] theorem storeByte_errinfo (b : Byte) : (storeByte b s).errinfo = s.errinfo := rfl
@[simp] theorem storeByte_errcause (b : Byte) : (storeByte b s).errcause = s.errcause := rfl
@[simp] theorem storeByte_axes (b : Byte) : (storeByte b s).axes = s.axes := rfl
@[simp] theorem storeByte_matrix (b : Byte) : (storeByte b s).matrix = s.matrix := rfl
@[simp] theorem storeByte_act (b : Byte) : (storeByte b s).act = s.act := rfl
@[simp] theorem storeByte_mixin (b : Byte) : (storeByte b s).mixin = s.mixin := rfl
@[simp] theorem storeByte_hdr (b : Byte) : (storeByte b s).hdr = s.hdr := rfl
@[simp] theorem storeByte_chmap (b : Byte) : (storeByte b s).chmap = s.chmap := rfl
@[simp] theorem storeByte_ch (b : Byte) : (storeByte b s).ch = s.ch := rfl
@[simp] theorem storeByte_framesOk (b : Byte) : (storeByte b s).framesOk = s.framesOk := rfl
@[simp] theorem storeByte_csumErrs (b : Byte) : (storeByte b s).csumErrs = s.csumErrs := rfl
@[simp] theorem storeByte_resyncs (b : Byte) : (storeByte b s).resyncs = s.resyncs := rfl
@[simp] theorem storeByte_mode (b : Byte) : (storeByte b s).mode = s.mode := rfl
@[simp] theorem storeByte_cnt (b : Byte) : (storeByte b s).cnt = s.cnt + 1 := rfl
@[simp] theorem storeByte_buf (b : Byte) : (storeByte b s).buf = s.buf.set s.cnt b := rfl
@[simp] theorem storeByte_readData (b : Byte) : (storeByte b s).readData = s.readData := rfl
@[simp] theorem storeByte_arrivals (b : Byte) : (storeByte b s).arrivals = s.arrivals := rfl
@[simp] theorem storeByte_ties (b : Byte) : (storeByte b s).ties = s.ties := rfl

@[simp] theorem startFrame_seenReset : (startFrame s).seenReset = s.seenReset := rfl
@[simp] theorem startFrame_ctrl : (startFrame s).ctrl = s.ctrl := rfl
@[simp] theorem startFrame_status : (startFrame s).status = s.status := rfl
@[simp] theorem startFrame_irqen : (startFrame s).irqen = s.irqen := rfl
@[simp] theorem startFrame_dt : (startFrame s).dt = s.dt := rfl
@[simp] theorem startFrame_inputs : (startFrame s).inputs = s.inputs := rfl
@[simp] theorem startFrame_errinfo : (startFrame s).errinfo = s.errinfo := rfl
@[simp] theorem startFrame_errcause : (startFrame s).errcause = s.errcause := rfl
@[simp] theorem startFrame_axes : (startFrame s).axes = s.axes := rfl
@[simp] theorem startFrame_matrix : (startFrame s).matrix = s.matrix := rfl
@[simp] theorem startFrame_act : (startFrame s).act = s.act := rfl
@[simp] theorem startFrame_mixin : (startFrame s).mixin = s.mixin := rfl
@[simp] theorem startFrame_hdr : (startFrame s).hdr = s.hdr := rfl
@[simp] theorem startFrame_chmap : (startFrame s).chmap = s.chmap := rfl
@[simp] theorem startFrame_ch : (startFrame s).ch = s.ch := rfl
@[simp] theorem startFrame_framesOk : (startFrame s).framesOk = s.framesOk := rfl
@[simp] theorem startFrame_csumErrs : (startFrame s).csumErrs = s.csumErrs := rfl
@[simp] theorem startFrame_resyncs : (startFrame s).resyncs = s.resyncs := rfl
@[simp] theorem startFrame_mode : (startFrame s).mode = .aligned := rfl
@[simp] theorem startFrame_cnt : (startFrame s).cnt = 2 := rfl
@[simp] theorem startFrame_buf : (startFrame s).buf = (s.buf.set 0 s.h0).set 1 s.h1 := rfl
@[simp] theorem startFrame_readData : (startFrame s).readData = s.readData := rfl
@[simp] theorem startFrame_arrivals : (startFrame s).arrivals = s.arrivals := rfl
@[simp] theorem startFrame_ties : (startFrame s).ties = s.ties := rfl

@[simp] theorem publishWrites_seenReset (chs : Vector Chan 14) : (publishWrites chs s).seenReset = s.seenReset := rfl
@[simp] theorem publishWrites_ctrl (chs : Vector Chan 14) : (publishWrites chs s).ctrl = s.ctrl := rfl
@[simp] theorem publishWrites_status (chs : Vector Chan 14) : (publishWrites chs s).status = s.status := rfl
@[simp] theorem publishWrites_irqen (chs : Vector Chan 14) : (publishWrites chs s).irqen = s.irqen := rfl
@[simp] theorem publishWrites_dt (chs : Vector Chan 14) : (publishWrites chs s).dt = s.dt := rfl
@[simp] theorem publishWrites_inputs (chs : Vector Chan 14) : (publishWrites chs s).inputs = inputsWord (enables chs[s.chmap.ench]) := rfl
@[simp] theorem publishWrites_errinfo (chs : Vector Chan 14) : (publishWrites chs s).errinfo = s.errinfo := rfl
@[simp] theorem publishWrites_errcause (chs : Vector Chan 14) : (publishWrites chs s).errcause = s.errcause := rfl
@[simp] theorem publishWrites_axes (chs : Vector Chan 14) : (publishWrites chs s).axes = PerAxis.gen (publishedBank s chs) := rfl
@[simp] theorem publishWrites_matrix (chs : Vector Chan 14) : (publishWrites chs s).matrix = s.matrix := rfl
@[simp] theorem publishWrites_act (chs : Vector Chan 14) : (publishWrites chs s).act = s.act := rfl
@[simp] theorem publishWrites_mixin (chs : Vector Chan 14) : (publishWrites chs s).mixin = s.mixin := rfl
@[simp] theorem publishWrites_hdr (chs : Vector Chan 14) : (publishWrites chs s).hdr = s.hdr := rfl
@[simp] theorem publishWrites_chmap (chs : Vector Chan 14) : (publishWrites chs s).chmap = s.chmap := rfl
@[simp] theorem publishWrites_ch (chs : Vector Chan 14) : (publishWrites chs s).ch = chs := rfl
@[simp] theorem publishWrites_framesOk (chs : Vector Chan 14) : (publishWrites chs s).framesOk = countUp s.framesOk := rfl
@[simp] theorem publishWrites_csumErrs (chs : Vector Chan 14) : (publishWrites chs s).csumErrs = s.csumErrs := rfl
@[simp] theorem publishWrites_resyncs (chs : Vector Chan 14) : (publishWrites chs s).resyncs = s.resyncs := rfl
@[simp] theorem publishWrites_mode (chs : Vector Chan 14) : (publishWrites chs s).mode = s.mode := rfl
@[simp] theorem publishWrites_cnt (chs : Vector Chan 14) : (publishWrites chs s).cnt = s.cnt := rfl
@[simp] theorem publishWrites_buf (chs : Vector Chan 14) : (publishWrites chs s).buf = s.buf := rfl
@[simp] theorem publishWrites_readData (chs : Vector Chan 14) : (publishWrites chs s).readData = s.readData := rfl
@[simp] theorem publishWrites_arrivals (chs : Vector Chan 14) : (publishWrites chs s).arrivals = s.arrivals := rfl
@[simp] theorem publishWrites_ties (chs : Vector Chan 14) : (publishWrites chs s).ties = s.ties := rfl

@[simp] theorem presenting_seenReset (es : List Event) : (s.presenting es).seenReset = s.seenReset := rfl
@[simp] theorem presenting_ctrl (es : List Event) : (s.presenting es).ctrl = s.ctrl := rfl
@[simp] theorem presenting_status (es : List Event) : (s.presenting es).status = s.status := rfl
@[simp] theorem presenting_irqen (es : List Event) : (s.presenting es).irqen = s.irqen := rfl
@[simp] theorem presenting_dt (es : List Event) : (s.presenting es).dt = s.dt := rfl
@[simp] theorem presenting_inputs (es : List Event) : (s.presenting es).inputs = s.inputs := rfl
@[simp] theorem presenting_errinfo (es : List Event) : (s.presenting es).errinfo = s.errinfo := rfl
@[simp] theorem presenting_errcause (es : List Event) : (s.presenting es).errcause = s.errcause := rfl
@[simp] theorem presenting_axes (es : List Event) : (s.presenting es).axes = s.axes := rfl
@[simp] theorem presenting_matrix (es : List Event) : (s.presenting es).matrix = s.matrix := rfl
@[simp] theorem presenting_act (es : List Event) : (s.presenting es).act = s.act := rfl
@[simp] theorem presenting_mixin (es : List Event) : (s.presenting es).mixin = s.mixin := rfl
@[simp] theorem presenting_hdr (es : List Event) : (s.presenting es).hdr = s.hdr := rfl
@[simp] theorem presenting_chmap (es : List Event) : (s.presenting es).chmap = s.chmap := rfl
@[simp] theorem presenting_ch (es : List Event) : (s.presenting es).ch = s.ch := rfl
@[simp] theorem presenting_framesOk (es : List Event) : (s.presenting es).framesOk = s.framesOk := rfl
@[simp] theorem presenting_csumErrs (es : List Event) : (s.presenting es).csumErrs = s.csumErrs := rfl
@[simp] theorem presenting_resyncs (es : List Event) : (s.presenting es).resyncs = s.resyncs := rfl
@[simp] theorem presenting_mode (es : List Event) : (s.presenting es).mode = s.mode := rfl
@[simp] theorem presenting_cnt (es : List Event) : (s.presenting es).cnt = s.cnt := rfl
@[simp] theorem presenting_buf (es : List Event) : (s.presenting es).buf = s.buf := rfl
@[simp] theorem presenting_readData (es : List Event) : (s.presenting es).readData = s.readData := rfl
@[simp] theorem presenting_arrivals (es : List Event) : (s.presenting es).arrivals = es.map .one := rfl
@[simp] theorem presenting_ties (es : List Event) : (s.presenting es).ties = s.ties := rfl

@[simp] theorem raiseWhen_seenReset (p : Bool) (c : Cause) (w : Word) : (raiseWhen p c w s).seenReset = s.seenReset := by cases p <;> rfl
@[simp] theorem raiseWhen_ctrl (p : Bool) (c : Cause) (w : Word) : (raiseWhen p c w s).ctrl = s.ctrl := by cases p <;> rfl
theorem raiseWhen_status (p : Bool) (c : Cause) (w : Word) :
    (raiseWhen p c w s).status = if p then (raiseError c w s).status else s.status := by cases p <;> rfl
@[simp] theorem raiseWhen_irqen (p : Bool) (c : Cause) (w : Word) : (raiseWhen p c w s).irqen = s.irqen := by cases p <;> rfl
@[simp] theorem raiseWhen_dt (p : Bool) (c : Cause) (w : Word) : (raiseWhen p c w s).dt = s.dt := by cases p <;> rfl
@[simp] theorem raiseWhen_inputs (p : Bool) (c : Cause) (w : Word) : (raiseWhen p c w s).inputs = s.inputs := by cases p <;> rfl
theorem raiseWhen_errinfo (p : Bool) (c : Cause) (w : Word) :
    (raiseWhen p c w s).errinfo = if p then (raiseError c w s).errinfo else s.errinfo := by cases p <;> rfl
theorem raiseWhen_errcause (p : Bool) (c : Cause) (w : Word) :
    (raiseWhen p c w s).errcause = if p then (raiseError c w s).errcause else s.errcause := by cases p <;> rfl
@[simp] theorem raiseWhen_axes (p : Bool) (c : Cause) (w : Word) : (raiseWhen p c w s).axes = s.axes := by cases p <;> rfl
@[simp] theorem raiseWhen_matrix (p : Bool) (c : Cause) (w : Word) : (raiseWhen p c w s).matrix = s.matrix := by cases p <;> rfl
@[simp] theorem raiseWhen_act (p : Bool) (c : Cause) (w : Word) : (raiseWhen p c w s).act = s.act := by cases p <;> rfl
@[simp] theorem raiseWhen_mixin (p : Bool) (c : Cause) (w : Word) : (raiseWhen p c w s).mixin = s.mixin := by cases p <;> rfl
@[simp] theorem raiseWhen_hdr (p : Bool) (c : Cause) (w : Word) : (raiseWhen p c w s).hdr = s.hdr := by cases p <;> rfl
@[simp] theorem raiseWhen_chmap (p : Bool) (c : Cause) (w : Word) : (raiseWhen p c w s).chmap = s.chmap := by cases p <;> rfl
@[simp] theorem raiseWhen_ch (p : Bool) (c : Cause) (w : Word) : (raiseWhen p c w s).ch = s.ch := by cases p <;> rfl
@[simp] theorem raiseWhen_framesOk (p : Bool) (c : Cause) (w : Word) : (raiseWhen p c w s).framesOk = s.framesOk := by cases p <;> rfl
@[simp] theorem raiseWhen_csumErrs (p : Bool) (c : Cause) (w : Word) : (raiseWhen p c w s).csumErrs = s.csumErrs := by cases p <;> rfl
@[simp] theorem raiseWhen_resyncs (p : Bool) (c : Cause) (w : Word) : (raiseWhen p c w s).resyncs = s.resyncs := by cases p <;> rfl
@[simp] theorem raiseWhen_mode (p : Bool) (c : Cause) (w : Word) : (raiseWhen p c w s).mode = s.mode := by cases p <;> rfl
@[simp] theorem raiseWhen_cnt (p : Bool) (c : Cause) (w : Word) : (raiseWhen p c w s).cnt = s.cnt := by cases p <;> rfl
@[simp] theorem raiseWhen_buf (p : Bool) (c : Cause) (w : Word) : (raiseWhen p c w s).buf = s.buf := by cases p <;> rfl
@[simp] theorem raiseWhen_readData (p : Bool) (c : Cause) (w : Word) : (raiseWhen p c w s).readData = s.readData := by cases p <;> rfl
@[simp] theorem raiseWhen_arrivals (p : Bool) (c : Cause) (w : Word) : (raiseWhen p c w s).arrivals = s.arrivals := by cases p <;> rfl
@[simp] theorem raiseWhen_ties (p : Bool) (c : Cause) (w : Word) : (raiseWhen p c w s).ties = s.ties := by cases p <;> rfl

@[simp] theorem raiseWhen_true (c : Cause) (w : Word) : raiseWhen true c w s = raiseError c w s := rfl
@[simp] theorem raiseWhen_false (c : Cause) (w : Word) : raiseWhen false c w s = s := rfl

@[simp] theorem PerAxis.get_gen {α : Type} (f : Axis → α) (a : Axis) : (PerAxis.gen f).get a = f a := by cases a <;> rfl
@[simp] theorem PerActuator.get_gen {α : Type} (f : Actuator → α) (i : Actuator) : (PerActuator.gen f).get i = f i := by
  cases i <;> rfl

theorem PerAxis.get_set {α : Type} (p : PerAxis α) (a b : Axis) (v : α) :
    (p.set a v).get b = if b = a then v else p.get b := by cases a <;> cases b <;> rfl
theorem PerActuator.get_set {α : Type} (p : PerActuator α) (i j : Actuator) (v : α) :
    (p.set i v).get j = if j = i then v else p.get j := by cases i <;> cases j <;> rfl

@[simp] theorem PerAxis.get_set_self {α : Type} (p : PerAxis α) (a : Axis) (v : α) : (p.set a v).get a = v := by cases a <;> rfl
@[simp] theorem PerActuator.get_set_self {α : Type} (p : PerActuator α) (i : Actuator) (v : α) : (p.set i v).get i = v := by
  cases i <;> rfl

/-- Two per-axis values with the same copies are equal. -/
theorem PerAxis.ext_get {α : Type} {p q : PerAxis α} (h : ∀ a, p.get a = q.get a) : p = q := by
  cases p; cases q
  have h1 := h .roll; have h2 := h .pitch; have h3 := h .yawRate; have h4 := h .altitude
  simp_all [PerAxis.get]

/-- Two per-actuator values with the same copies are equal. -/
theorem PerActuator.ext_get {α : Type} {p q : PerActuator α} (h : ∀ i, p.get i = q.get i) : p = q := by
  cases p; cases q
  have h1 := h .port; have h2 := h .starboard; have h3 := h .aft; have h4 := h .rudder
  simp_all [PerActuator.get]

@[simp] theorem setBank_bank_self (a : Axis) (b : AxisBank) : (s.setBank a b).bank a = b := by simp [State.bank]
theorem setBank_bank (a c : Axis) (b : AxisBank) : (s.setBank a b).bank c = if c = a then b else s.bank c := by
  simp [State.bank, PerAxis.get_set]
@[simp] theorem mapBanks_bank (f : Axis → AxisBank) (a : Axis) : (s.mapBanks f).bank a = f a := by simp [State.bank]
@[simp] theorem setAct_get (f : Actuator → Int) (i : Actuator) : (s.setAct f).act.get i = ofS32 (f i) := by simp

@[simp] theorem setAct_bank (f : Actuator → Int) (x : Axis) : (s.setAct f).bank x = s.bank x := rfl
@[simp] theorem raiseError_bank (c : Cause) (w : Word) (x : Axis) : (raiseError c w s).bank x = s.bank x := rfl
@[simp] theorem signalEvent_bank (e : DecEvent) (x : Axis) : (signalEvent e s).bank x = s.bank x := rfl
@[simp] theorem acknowledge_bank (w : Word) (x : Axis) : (acknowledge w s).bank x = s.bank x := rfl
@[simp] theorem clearResponse_bank (x : Axis) : (clearResponse s).bank x = s.bank x := rfl
@[simp] theorem storeByte_bank (b : Byte) (x : Axis) : (storeByte b s).bank x = s.bank x := rfl
@[simp] theorem startFrame_bank (x : Axis) : (startFrame s).bank x = s.bank x := rfl
@[simp] theorem presenting_bank (es : List Event) (x : Axis) : (s.presenting es).bank x = s.bank x := rfl
@[simp] theorem raiseWhen_bank (p : Bool) (c : Cause) (w : Word) (x : Axis) : (raiseWhen p c w s).bank x = s.bank x := by cases p <;> rfl

@[simp] theorem headerMismatch_seenReset : (headerMismatch s).seenReset = s.seenReset := rfl
@[simp] theorem headerMismatch_ctrl : (headerMismatch s).ctrl = s.ctrl := rfl
@[simp] theorem headerMismatch_status : (headerMismatch s).status = s.status ||| bitWord 8 := rfl
@[simp] theorem headerMismatch_irqen : (headerMismatch s).irqen = s.irqen := rfl
@[simp] theorem headerMismatch_dt : (headerMismatch s).dt = s.dt := rfl
@[simp] theorem headerMismatch_inputs : (headerMismatch s).inputs = s.inputs := rfl
@[simp] theorem headerMismatch_errinfo : (headerMismatch s).errinfo = s.errinfo := rfl
@[simp] theorem headerMismatch_errcause : (headerMismatch s).errcause = s.errcause := rfl
@[simp] theorem headerMismatch_axes : (headerMismatch s).axes = s.axes := rfl
@[simp] theorem headerMismatch_matrix : (headerMismatch s).matrix = s.matrix := rfl
@[simp] theorem headerMismatch_act : (headerMismatch s).act = s.act := rfl
@[simp] theorem headerMismatch_mixin : (headerMismatch s).mixin = s.mixin := rfl
@[simp] theorem headerMismatch_hdr : (headerMismatch s).hdr = s.hdr := rfl
@[simp] theorem headerMismatch_chmap : (headerMismatch s).chmap = s.chmap := rfl
@[simp] theorem headerMismatch_ch : (headerMismatch s).ch = s.ch := rfl
@[simp] theorem headerMismatch_framesOk : (headerMismatch s).framesOk = s.framesOk := rfl
@[simp] theorem headerMismatch_csumErrs : (headerMismatch s).csumErrs = s.csumErrs := rfl
@[simp] theorem headerMismatch_resyncs : (headerMismatch s).resyncs = countUp s.resyncs := rfl
@[simp] theorem headerMismatch_mode : (headerMismatch s).mode = .scan0 := rfl
@[simp] theorem headerMismatch_cnt : (headerMismatch s).cnt = s.cnt := rfl
@[simp] theorem headerMismatch_buf : (headerMismatch s).buf = s.buf := rfl
@[simp] theorem headerMismatch_readData : (headerMismatch s).readData = s.readData := rfl
@[simp] theorem headerMismatch_arrivals : (headerMismatch s).arrivals = s.arrivals := rfl
@[simp] theorem headerMismatch_ties : (headerMismatch s).ties = s.ties := rfl

@[simp] theorem checksumFail_seenReset : (checksumFail s).seenReset = s.seenReset := rfl
@[simp] theorem checksumFail_ctrl : (checksumFail s).ctrl = s.ctrl := rfl
@[simp] theorem checksumFail_status : (checksumFail s).status = s.status ||| bitWord 7 := rfl
@[simp] theorem checksumFail_irqen : (checksumFail s).irqen = s.irqen := rfl
@[simp] theorem checksumFail_dt : (checksumFail s).dt = s.dt := rfl
@[simp] theorem checksumFail_inputs : (checksumFail s).inputs = s.inputs := rfl
@[simp] theorem checksumFail_errinfo : (checksumFail s).errinfo = s.errinfo := rfl
@[simp] theorem checksumFail_errcause : (checksumFail s).errcause = s.errcause := rfl
@[simp] theorem checksumFail_axes : (checksumFail s).axes = s.axes := rfl
@[simp] theorem checksumFail_matrix : (checksumFail s).matrix = s.matrix := rfl
@[simp] theorem checksumFail_act : (checksumFail s).act = s.act := rfl
@[simp] theorem checksumFail_mixin : (checksumFail s).mixin = s.mixin := rfl
@[simp] theorem checksumFail_hdr : (checksumFail s).hdr = s.hdr := rfl
@[simp] theorem checksumFail_chmap : (checksumFail s).chmap = s.chmap := rfl
@[simp] theorem checksumFail_ch : (checksumFail s).ch = s.ch := rfl
@[simp] theorem checksumFail_framesOk : (checksumFail s).framesOk = s.framesOk := rfl
@[simp] theorem checksumFail_csumErrs : (checksumFail s).csumErrs = countUp s.csumErrs := rfl
@[simp] theorem checksumFail_resyncs : (checksumFail s).resyncs = s.resyncs := rfl
@[simp] theorem checksumFail_mode : (checksumFail s).mode = s.mode := rfl
@[simp] theorem checksumFail_cnt : (checksumFail s).cnt = s.cnt := rfl
@[simp] theorem checksumFail_buf : (checksumFail s).buf = s.buf := rfl
@[simp] theorem checksumFail_readData : (checksumFail s).readData = s.readData := rfl
@[simp] theorem checksumFail_arrivals : (checksumFail s).arrivals = s.arrivals := rfl
@[simp] theorem checksumFail_ties : (checksumFail s).ties = s.ties := rfl

@[simp] theorem publish_seenReset (b : Byte) : (publish b s).seenReset = s.seenReset := by simp [publish]
@[simp] theorem publish_ctrl (b : Byte) : (publish b s).ctrl = s.ctrl := by simp [publish]
@[simp] theorem publish_irqen (b : Byte) : (publish b s).irqen = s.irqen := by simp [publish]
@[simp] theorem publish_dt (b : Byte) : (publish b s).dt = s.dt := by simp [publish]
@[simp] theorem publish_inputs (b : Byte) : (publish b s).inputs = inputsWord (enables (channelWords s.be s.buf)[s.chmap.ench]) := by simp [publish]
@[simp] theorem publish_axes (b : Byte) : (publish b s).axes = PerAxis.gen (publishedBank s (channelWords s.be s.buf)) := by simp [publish]
@[simp] theorem publish_matrix (b : Byte) : (publish b s).matrix = s.matrix := by simp [publish]
@[simp] theorem publish_act (b : Byte) : (publish b s).act = s.act := by simp [publish]
@[simp] theorem publish_mixin (b : Byte) : (publish b s).mixin = s.mixin := by simp [publish]
@[simp] theorem publish_hdr (b : Byte) : (publish b s).hdr = s.hdr := by simp [publish]
@[simp] theorem publish_chmap (b : Byte) : (publish b s).chmap = s.chmap := by simp [publish]
@[simp] theorem publish_ch (b : Byte) : (publish b s).ch = channelWords s.be s.buf := by simp [publish]
@[simp] theorem publish_framesOk (b : Byte) : (publish b s).framesOk = countUp s.framesOk := by simp [publish]
@[simp] theorem publish_csumErrs (b : Byte) : (publish b s).csumErrs = s.csumErrs := by simp [publish]
@[simp] theorem publish_resyncs (b : Byte) : (publish b s).resyncs = s.resyncs := by simp [publish]
@[simp] theorem publish_mode (b : Byte) : (publish b s).mode = s.mode := by simp [publish]
@[simp] theorem publish_cnt (b : Byte) : (publish b s).cnt = s.cnt := by simp [publish]
@[simp] theorem publish_buf (b : Byte) : (publish b s).buf = s.buf := by simp [publish]
@[simp] theorem publish_readData (b : Byte) : (publish b s).readData = s.readData := by simp [publish]
@[simp] theorem publish_arrivals (b : Byte) : (publish b s).arrivals = s.arrivals := by simp [publish]
@[simp] theorem publish_ties (b : Byte) : (publish b s).ties = s.ties := by simp [publish]

@[simp] theorem tickUpdate_seenReset (w : Word) : (tickUpdate w s).seenReset = s.seenReset := by simp [tickUpdate]
@[simp] theorem tickUpdate_ctrl (w : Word) : (tickUpdate w s).ctrl = s.ctrl := by simp [tickUpdate]
@[simp] theorem tickUpdate_irqen (w : Word) : (tickUpdate w s).irqen = s.irqen := by simp [tickUpdate]
@[simp] theorem tickUpdate_dt (w : Word) : (tickUpdate w s).dt = s.dt := by simp [tickUpdate]
@[simp] theorem tickUpdate_inputs (w : Word) : (tickUpdate w s).inputs = s.inputs := by simp [tickUpdate]
@[simp] theorem tickUpdate_axes (w : Word) : (tickUpdate w s).axes = PerAxis.gen fun a => updatedBank s.dupd (s32 s.dt) (s.bank a) := by simp [tickUpdate]
@[simp] theorem tickUpdate_matrix (w : Word) : (tickUpdate w s).matrix = s.matrix := by simp [tickUpdate]
@[simp] theorem tickUpdate_act (w : Word) : (tickUpdate w s).act = PerActuator.gen fun i => ofS32 (mixvec s.matrix (tickOutputs s) i) := by simp [tickUpdate]
@[simp] theorem tickUpdate_mixin (w : Word) : (tickUpdate w s).mixin = s.mixin := by simp [tickUpdate]
@[simp] theorem tickUpdate_hdr (w : Word) : (tickUpdate w s).hdr = s.hdr := by simp [tickUpdate]
@[simp] theorem tickUpdate_chmap (w : Word) : (tickUpdate w s).chmap = s.chmap := by simp [tickUpdate]
@[simp] theorem tickUpdate_ch (w : Word) : (tickUpdate w s).ch = s.ch := by simp [tickUpdate]
@[simp] theorem tickUpdate_framesOk (w : Word) : (tickUpdate w s).framesOk = s.framesOk := by simp [tickUpdate]
@[simp] theorem tickUpdate_csumErrs (w : Word) : (tickUpdate w s).csumErrs = s.csumErrs := by simp [tickUpdate]
@[simp] theorem tickUpdate_resyncs (w : Word) : (tickUpdate w s).resyncs = s.resyncs := by simp [tickUpdate]
@[simp] theorem tickUpdate_mode (w : Word) : (tickUpdate w s).mode = s.mode := by simp [tickUpdate]
@[simp] theorem tickUpdate_cnt (w : Word) : (tickUpdate w s).cnt = s.cnt := by simp [tickUpdate]
@[simp] theorem tickUpdate_buf (w : Word) : (tickUpdate w s).buf = s.buf := by simp [tickUpdate]
@[simp] theorem tickUpdate_readData (w : Word) : (tickUpdate w s).readData = s.readData := by simp [tickUpdate]
@[simp] theorem tickUpdate_arrivals (w : Word) : (tickUpdate w s).arrivals = s.arrivals := by simp [tickUpdate]
@[simp] theorem tickUpdate_ties (w : Word) : (tickUpdate w s).ties = s.ties := by simp [tickUpdate]

@[simp] theorem tickDisabled_seenReset : (tickDisabled s).seenReset = s.seenReset := rfl
@[simp] theorem tickDisabled_ctrl : (tickDisabled s).ctrl = s.ctrl := rfl
@[simp] theorem tickDisabled_status : (tickDisabled s).status = s.status := rfl
@[simp] theorem tickDisabled_irqen : (tickDisabled s).irqen = s.irqen := rfl
@[simp] theorem tickDisabled_dt : (tickDisabled s).dt = s.dt := rfl
@[simp] theorem tickDisabled_inputs : (tickDisabled s).inputs = s.inputs := rfl
@[simp] theorem tickDisabled_errinfo : (tickDisabled s).errinfo = s.errinfo := rfl
@[simp] theorem tickDisabled_errcause : (tickDisabled s).errcause = s.errcause := rfl
@[simp] theorem tickDisabled_axes : (tickDisabled s).axes = PerAxis.gen fun a => clearedBank (s.bank a) := rfl
@[simp] theorem tickDisabled_matrix : (tickDisabled s).matrix = s.matrix := rfl
@[simp] theorem tickDisabled_act : (tickDisabled s).act = PerActuator.gen fun _ => ofS32 0 := rfl
@[simp] theorem tickDisabled_mixin : (tickDisabled s).mixin = s.mixin := rfl
@[simp] theorem tickDisabled_hdr : (tickDisabled s).hdr = s.hdr := rfl
@[simp] theorem tickDisabled_chmap : (tickDisabled s).chmap = s.chmap := rfl
@[simp] theorem tickDisabled_ch : (tickDisabled s).ch = s.ch := rfl
@[simp] theorem tickDisabled_framesOk : (tickDisabled s).framesOk = s.framesOk := rfl
@[simp] theorem tickDisabled_csumErrs : (tickDisabled s).csumErrs = s.csumErrs := rfl
@[simp] theorem tickDisabled_resyncs : (tickDisabled s).resyncs = s.resyncs := rfl
@[simp] theorem tickDisabled_mode : (tickDisabled s).mode = s.mode := rfl
@[simp] theorem tickDisabled_cnt : (tickDisabled s).cnt = s.cnt := rfl
@[simp] theorem tickDisabled_buf : (tickDisabled s).buf = s.buf := rfl
@[simp] theorem tickDisabled_readData : (tickDisabled s).readData = s.readData := rfl
@[simp] theorem tickDisabled_arrivals : (tickDisabled s).arrivals = s.arrivals := rfl
@[simp] theorem tickDisabled_ties : (tickDisabled s).ties = s.ties := rfl

@[simp] theorem pidCheckErrors_seenReset (w : Word) (used : List Axis) : (pidCheckErrors w used s).seenReset = s.seenReset := by simp [pidCheckErrors]
@[simp] theorem pidCheckErrors_ctrl (w : Word) (used : List Axis) : (pidCheckErrors w used s).ctrl = s.ctrl := by simp [pidCheckErrors]
@[simp] theorem pidCheckErrors_irqen (w : Word) (used : List Axis) : (pidCheckErrors w used s).irqen = s.irqen := by simp [pidCheckErrors]
@[simp] theorem pidCheckErrors_dt (w : Word) (used : List Axis) : (pidCheckErrors w used s).dt = s.dt := by simp [pidCheckErrors]
@[simp] theorem pidCheckErrors_inputs (w : Word) (used : List Axis) : (pidCheckErrors w used s).inputs = s.inputs := by simp [pidCheckErrors]
@[simp] theorem pidCheckErrors_axes (w : Word) (used : List Axis) : (pidCheckErrors w used s).axes = s.axes := by simp [pidCheckErrors]
@[simp] theorem pidCheckErrors_matrix (w : Word) (used : List Axis) : (pidCheckErrors w used s).matrix = s.matrix := by simp [pidCheckErrors]
@[simp] theorem pidCheckErrors_act (w : Word) (used : List Axis) : (pidCheckErrors w used s).act = s.act := by simp [pidCheckErrors]
@[simp] theorem pidCheckErrors_mixin (w : Word) (used : List Axis) : (pidCheckErrors w used s).mixin = s.mixin := by simp [pidCheckErrors]
@[simp] theorem pidCheckErrors_hdr (w : Word) (used : List Axis) : (pidCheckErrors w used s).hdr = s.hdr := by simp [pidCheckErrors]
@[simp] theorem pidCheckErrors_chmap (w : Word) (used : List Axis) : (pidCheckErrors w used s).chmap = s.chmap := by simp [pidCheckErrors]
@[simp] theorem pidCheckErrors_ch (w : Word) (used : List Axis) : (pidCheckErrors w used s).ch = s.ch := by simp [pidCheckErrors]
@[simp] theorem pidCheckErrors_framesOk (w : Word) (used : List Axis) : (pidCheckErrors w used s).framesOk = s.framesOk := by simp [pidCheckErrors]
@[simp] theorem pidCheckErrors_csumErrs (w : Word) (used : List Axis) : (pidCheckErrors w used s).csumErrs = s.csumErrs := by simp [pidCheckErrors]
@[simp] theorem pidCheckErrors_resyncs (w : Word) (used : List Axis) : (pidCheckErrors w used s).resyncs = s.resyncs := by simp [pidCheckErrors]
@[simp] theorem pidCheckErrors_mode (w : Word) (used : List Axis) : (pidCheckErrors w used s).mode = s.mode := by simp [pidCheckErrors]
@[simp] theorem pidCheckErrors_cnt (w : Word) (used : List Axis) : (pidCheckErrors w used s).cnt = s.cnt := by simp [pidCheckErrors]
@[simp] theorem pidCheckErrors_buf (w : Word) (used : List Axis) : (pidCheckErrors w used s).buf = s.buf := by simp [pidCheckErrors]
@[simp] theorem pidCheckErrors_readData (w : Word) (used : List Axis) : (pidCheckErrors w used s).readData = s.readData := by simp [pidCheckErrors]
@[simp] theorem pidCheckErrors_arrivals (w : Word) (used : List Axis) : (pidCheckErrors w used s).arrivals = s.arrivals := by simp [pidCheckErrors]
@[simp] theorem pidCheckErrors_ties (w : Word) (used : List Axis) : (pidCheckErrors w used s).ties = s.ties := by simp [pidCheckErrors]

@[simp] theorem publishWrites_bank (chs : Vector Chan 14) (a : Axis) : (publishWrites chs s).bank a = publishedBank s chs a := by
  simp [State.bank]
@[simp] theorem publish_bank (b : Byte) (a : Axis) :
    (publish b s).bank a = publishedBank s (channelWords s.be s.buf) a := by simp [State.bank]
@[simp] theorem tickUpdate_bank (w : Word) (a : Axis) :
    (tickUpdate w s).bank a = updatedBank s.dupd (s32 s.dt) (s.bank a) := by simp [tickUpdate]
@[simp] theorem tickDisabled_bank (a : Axis) : (tickDisabled s).bank a = clearedBank (s.bank a) := by simp [tickDisabled]
@[simp] theorem pidCheckErrors_bank (w : Word) (used : List Axis) (a : Axis) :
    (pidCheckErrors w used s).bank a = s.bank a := by simp [pidCheckErrors]
@[simp] theorem headerMismatch_bank (a : Axis) : (headerMismatch s).bank a = s.bank a := rfl
@[simp] theorem checksumFail_bank (a : Axis) : (checksumFail s).bank a = s.bank a := rfl

end Sys2Proof.Machine
end

