-- ==== Sys2Proof/Laws/Read.lean ====
section
/-! SUPPORT. What each register of the map shows (20_memory.md R54), and what a record of an error leaves alone. -/

namespace Sys2Proof.Machine

variable (s : State)

@[simp] theorem read_id : s.read .id = idWord := rfl
@[simp] theorem read_ctrl : s.read .ctrl = s.ctrl := rfl
@[simp] theorem read_status : s.read .status = s.status := rfl
@[simp] theorem read_irqen : s.read .irqen = s.irqen := rfl
@[simp] theorem read_cmd : s.read .cmd = 0 := rfl
@[simp] theorem read_dt : s.read .dt = s.dt := rfl
@[simp] theorem read_inputs : s.read .inputs = s.inputs := rfl
@[simp] theorem read_errinfo : s.read .errinfo = s.errinfo := rfl
@[simp] theorem read_errcause : s.read .errcause = s.errcause := rfl
@[simp] theorem read_axis (a : Axis) (r : AxisReg) : s.read (.axis a r) = (s.bank a).read r := rfl
@[simp] theorem read_m (i : Actuator) (j : Axis) : s.read (.m i j) = (s.matrix.get i).get j := rfl
@[simp] theorem read_act (i : Actuator) : s.read (.act i) = s.act.get i := rfl
@[simp] theorem read_mixin (j : Axis) : s.read (.mixin j) = s.mixin.get j := rfl
@[simp] theorem read_hdr : s.read .hdr = s.hdr := rfl
@[simp] theorem read_chmap : s.read .chmap = s.chmap.word := rfl
@[simp] theorem read_rxdata : s.read .rxdata = 0 := rfl
@[simp] theorem read_framesOk : s.read .framesOk = s.framesOk := rfl
@[simp] theorem read_csumErrs : s.read .csumErrs = s.csumErrs := rfl
@[simp] theorem read_resyncs : s.read .resyncs = s.resyncs := rfl
theorem read_ch (k : Fin 14) : s.read (.ch k) = (s.ch[k]).setWidth 32 := rfl
theorem read_decState : s.read .decState = BitVec.ofNat 32 (s.mode.code + 256 * s.cnt.val) := rfl

@[simp] theorem bank_read_kp (b : AxisBank) : b.read .kp = b.kp := rfl
@[simp] theorem bank_read_ki (b : AxisBank) : b.read .ki = b.ki := rfl
@[simp] theorem bank_read_kd (b : AxisBank) : b.read .kd = b.kd := rfl
@[simp] theorem bank_read_ilim (b : AxisBank) : b.read .ilim = b.ilim := rfl
@[simp] theorem bank_read_defsp (b : AxisBank) : b.read .defsp = b.defsp := rfl
@[simp] theorem bank_read_sens (b : AxisBank) : b.read .sens = b.sens := rfl
@[simp] theorem bank_read_sp (b : AxisBank) : b.read .sp = b.sp := rfl
@[simp] theorem bank_read_meas (b : AxisBank) : b.read .meas = b.meas := rfl
@[simp] theorem bank_read_iterm (b : AxisBank) : b.read .iterm = b.iterm := rfl
@[simp] theorem bank_read_lasterr (b : AxisBank) : b.read .lasterr = b.lasterr := rfl
@[simp] theorem bank_read_pidout (b : AxisBank) : b.read .pidout = b.pidout := rfl

/-- A state whose registers' fields agree with another's reads the same everywhere. -/
theorem read_congr {s t : State} (h1 : t.ctrl = s.ctrl) (h2 : t.status = s.status) (h3 : t.irqen = s.irqen) (h4 : t.dt = s.dt)
    (h5 : t.inputs = s.inputs) (h6 : t.errinfo = s.errinfo) (h7 : t.errcause = s.errcause) (h8 : t.axes = s.axes)
    (h9 : t.matrix = s.matrix) (h10 : t.act = s.act) (h11 : t.mixin = s.mixin) (h12 : t.hdr = s.hdr)
    (h13 : t.chmap = s.chmap) (h14 : t.ch = s.ch) (h15 : t.framesOk = s.framesOk) (h16 : t.csumErrs = s.csumErrs)
    (h17 : t.resyncs = s.resyncs) (h18 : t.mode = s.mode) (h19 : t.cnt = s.cnt) (r : Reg) : t.read r = s.read r := by
  cases r <;> simp [State.bank, read_ch, read_decState, *]

/-- A raised error shows in STATUS, ERRINFO and ERRCAUSE alone (60_exceptions.md R162). -/
theorem read_raiseError (c : Cause) (w : Word) (r : Reg) (hr : ¬isRecord r) : (raiseError c w s).read r = s.read r := by
  cases r <;> first | rfl | exact absurd trivial hr

theorem read_raiseWhen (p : Bool) (c : Cause) (w : Word) (r : Reg) (hr : ¬isRecord r) :
    (raiseWhen p c w s).read r = s.read r := by
  cases p
  · rfl
  · exact read_raiseError s c w r hr

/-- A decoder event shows in STATUS alone. -/
theorem read_signalEvent (e : DecEvent) (r : Reg) (hr : r ≠ .status) : (signalEvent e s).read r = s.read r := by
  cases r <;> first | rfl | exact absurd rfl hr

/-- The bus response is no register. -/
@[simp] theorem read_clearResponse (r : Reg) : (clearResponse s).read r = s.read r :=
  read_congr rfl rfl rfl rfl rfl rfl rfl rfl rfl rfl rfl rfl rfl rfl rfl rfl rfl rfl rfl r

theorem sameHidden_refl : SameHidden s s := ⟨rfl, rfl, rfl, rfl, rfl, rfl, rfl⟩

theorem SameHidden.trans {s t u : State} (h : SameHidden s t) (k : SameHidden t u) : SameHidden s u :=
  ⟨k.1.trans h.1, k.2.trans h.2, k.3.trans h.3, k.4.trans h.4, k.5.trans h.5, k.6.trans h.6, k.7.trans h.7⟩

theorem sameHidden_raiseError (c : Cause) (w : Word) : SameHidden s (raiseError c w s) := ⟨rfl, rfl, rfl, rfl, rfl, rfl, rfl⟩
theorem sameHidden_raiseWhen (p : Bool) (c : Cause) (w : Word) : SameHidden s (raiseWhen p c w s) := by
  cases p <;> exact ⟨rfl, rfl, rfl, rfl, rfl, rfl, rfl⟩
theorem sameHidden_setBank (a : Axis) (b : AxisBank) : SameHidden s (s.setBank a b) := ⟨rfl, rfl, rfl, rfl, rfl, rfl, rfl⟩
theorem sameHidden_mapBanks (f : Axis → AxisBank) : SameHidden s (s.mapBanks f) := ⟨rfl, rfl, rfl, rfl, rfl, rfl, rfl⟩
theorem sameHidden_setAct (f : Actuator → Int) : SameHidden s (s.setAct f) := ⟨rfl, rfl, rfl, rfl, rfl, rfl, rfl⟩

theorem KeepsRegs.trans {keep : Reg → Prop} {s t u : State} (h : KeepsRegs keep s t) (k : KeepsRegs keep t u) :
    KeepsRegs keep s u := fun r hr => (k r hr).trans (h r hr)

end Sys2Proof.Machine
end

