-- ==== Sys2Proof/Laws/Ops.lean ====
section
/-! SUPPORT. The spec lemmas of the arithmetic primitives, of STATUS bits, of the precondition check, of CHMAP's
fields and of the commands that raise OVF. -/

namespace Sys2Proof.Machine

/-- The one spelling of a register read as a signed number. -/
@[simp] theorem s32_eq_toInt (w : Word) : s32 w = w.toInt := rfl

theorem floorDiv_eq_div (n : Int) {d : Int} (h : 0 < d) : floorDiv n d = n / d := Int.fdiv_eq_ediv_of_nonneg n h.le

theorem fxmul_eq_div (a b : Int) : fxmul a b = a * b / 65536 := floorDiv_eq_div _ (by decide)

/-- sat32 lands in the range of a register. -/
theorem sat32_bounds (v : Int) : -2 ^ 31 ≤ sat32 v ∧ sat32 v ≤ 2 ^ 31 - 1 := by
  unfold sat32 minS32 maxS32; split_ifs <;> omega

theorem saturates_iff (v : Int) : saturates v = true ↔ OutOfRange v := by
  unfold saturates OutOfRange sat32 minS32 maxS32
  simp only [bne_iff_ne]; split_ifs <;> omega

theorem s32_bounds (w : Word) : -2 ^ 31 ≤ s32 w ∧ s32 w ≤ 2 ^ 31 - 1 := by
  simp only [s32_eq_toInt]
  have := BitVec.toInt_lt (x := w)
  have := BitVec.le_toInt (x := w)
  omega

/-- An integer in range survives the write to a register (00_scope.md R8). -/
theorem toInt_ofS32 {v : Int} (h1 : -2 ^ 31 ≤ v) (h2 : v ≤ 2 ^ 31 - 1) : (ofS32 v).toInt = v := by
  unfold ofS32; rw [BitVec.toInt_ofInt, Int.bmod_def]; omega

@[simp] theorem toInt_ofS32_sat32 (v : Int) : (ofS32 (sat32 v)).toInt = sat32 v :=
  toInt_ofS32 (sat32_bounds v).1 (sat32_bounds v).2

@[simp] theorem ofS32_toInt (w : Word) : ofS32 w.toInt = w := BitVec.ofInt_toInt

/-- The clamp of the integrator lands between its limits (40_pid.md R101). -/
theorem clamp_neg_bounds (v : Int) {l : Int} (h : 0 ≤ l) : -l ≤ clamp v (-l) l ∧ clamp v (-l) l ≤ l := by
  unfold clamp; omega

theorem toInt_pidIntegral (dt : Int) (b : AxisBank) (h : 0 ≤ b.ilim.toInt) :
    (ofS32 (pidIntegral dt b)).toInt = pidIntegral dt b := by
  have h1 := clamp_neg_bounds (s32 b.iterm + fxmul dt (pidError b)) (l := s32 b.ilim) h
  have h2 := s32_bounds b.ilim
  exact toInt_ofS32 (by unfold pidIntegral; omega) (by unfold pidIntegral; omega)

theorem getLsbD_bitWord (n : Nat) {k : Nat} (hk : k < 32) : (bitWord n).getLsbD k = (k == n) := by
  unfold bitWord
  rw [BitVec.getLsbD_ofNat, Nat.testBit_two_pow, Bool.beq_eq_decide_eq]
  simp [hk, eq_comm]

theorem pidCheckPasses_one (s : State) (a : Axis) :
    pidCheckPasses s [a] = true ↔ 0 < s.dt.toInt ∧ 0 ≤ (s.bank a).ilim.toInt := by
  simp [pidCheckPasses, dtBad, limBad]

theorem pidCheckPasses_all (s : State) :
    pidCheckPasses s Axis.all = true ↔ 0 < s.dt.toInt ∧ ∀ a, 0 ≤ (s.bank a).ilim.toInt := by
  simp only [pidCheckPasses, dtBad, limBad, Axis.all, List.any_cons, List.any_nil, Bool.and_eq_true, Bool.not_eq_true',
    decide_eq_false_iff_not, not_le, Bool.or_eq_false_iff, not_lt, Bool.or_false]
  refine and_congr_right fun _ => ⟨?_, fun h => ⟨h _, h _, h _, h _⟩⟩
  rintro ⟨h1, h2, h3, h4⟩ a
  cases a <;> assumption

theorem pidSaturates_iff (dt : Int) (b : AxisBank) :
    pidSaturates dt b = true ↔ OutOfRange (setpointSum b) ∨ OutOfRange (errorDifference b) ∨ OutOfRange (commandSum dt b) := by
  simp [pidSaturates, saturates_iff, or_assoc]

theorem mixSaturates_iff (m : PerActuator (PerAxis Word)) (v : PerAxis Int) :
    mixSaturates m v = true ↔ ∃ i, OutOfRange (rowRounded m v i) := by
  simp only [mixSaturates, Actuator.all, List.any_cons, List.any_nil, Bool.or_false, Bool.or_eq_true, saturates_iff]
  constructor
  · rintro (h | h | h | h) <;> exact ⟨_, h⟩
  · rintro ⟨i, h⟩
    cases i
    exacts [.inl h, .inr (.inl h), .inr (.inr (.inl h)), .inr (.inr (.inr h))]

theorem publishSaturates_iff (s : State) (chs : Vector Chan 14) :
    publishSaturates s chs = true ↔ ∃ a, OutOfRange (scaledSetpoint s chs a) := by
  simp only [publishSaturates, Axis.all, List.any_cons, List.any_nil, Bool.or_false, Bool.or_eq_true, saturates_iff]
  constructor
  · rintro (h | h | h | h) <;> exact ⟨_, h⟩
  · rintro ⟨a, h⟩
    cases a
    exacts [.inl h, .inr (.inl h), .inr (.inr (.inl h)), .inr (.inr (.inr h))]

/-- The number in a CHMAP field is a digit of the sum that makes the word. -/
theorem chmapNumber_eq (s : State) (lo : Nat) :
    s.chmapNumber lo = (s.chmap.roll.val + 0x10 * s.chmap.pitch.val + 0x100 * s.chmap.yaw.val + 0x1000 * s.chmap.alt.val +
      0x10000 * s.chmap.ench.val) / 2 ^ lo % 16 := by
  have h : s.chmap.word.toNat = s.chmap.roll.val + 0x10 * s.chmap.pitch.val + 0x100 * s.chmap.yaw.val +
      0x1000 * s.chmap.alt.val + 0x10000 * s.chmap.ench.val := by
    rw [ChMap.word, BitVec.toNat_ofNat]; omega
  rw [State.chmapNumber, read_chmap, BitVec.extractLsb'_toNat, h, Nat.shiftRight_eq_div_pow]

/-- Each axis's field of CHMAP names its channel (10_state.md R33). -/
@[simp] theorem chmapNumber_chmapPlace (s : State) (a : Axis) : s.chmapNumber (chmapPlace a) = s.chmap.channel a := by
  cases a <;> rw [chmapNumber_eq] <;> simp only [chmapPlace, ChMap.channel] <;> omega

@[simp] theorem chmapNumber_enchPlace (s : State) : s.chmapNumber enchPlace = s.chmap.ench := by
  rw [chmapNumber_eq, enchPlace]; omega

@[simp] theorem designated_chmapPlace (s : State) (a : Axis) : s.designated (chmapPlace a) = s.chmap.channel a := by
  simp [State.designated]

@[simp] theorem designated_enchPlace (s : State) : s.designated enchPlace = s.chmap.ench := by simp [State.designated]

/-- With STATUS cleared, an OVF raised under a condition shows the condition in STATUS.OVF (60_exceptions.md R162). -/
theorem getLsbD_ovf_raiseWhen (p : Bool) (w : Word) {s : State} (h : s.status = 0) :
    (raiseWhen p .ovf w s).status.getLsbD Cause.ovf.code = p := by
  cases p
  · show s.status.getLsbD 2 = false
    rw [h]; rfl
  · show (s.status ||| bitWord 2).getLsbD 2 = true
    rw [h]; decide

/-- PID.UPDATE whose check passes raises OVF exactly if a saturation point of its axis changes its argument. -/
theorem raisesOvf_pidUpdate (a : Axis) (s : State) (h : pidCheckPasses s [a] = true) :
    raisesOvf (.pidUpdate a) s = pidSaturates (s32 s.dt) (s.bank a) := by
  have h' : pidCheckPasses { s with status := 0 } [a] = true := h
  simp only [raisesOvf, exec, execPidUpdate, h', if_true]
  exact getLsbD_ovf_raiseWhen _ _ rfl

/-- MIX raises OVF exactly if a row saturates. -/
theorem raisesOvf_mix (src : MixSource) (s : State) :
    raisesOvf (.mix src) s = mixSaturates s.matrix (mixOperand src s) :=
  (getLsbD_ovf_raiseWhen _ _ rfl).trans (by cases src <;> rfl)

end Sys2Proof.Machine
end

