-- ==== Sys2Proof/Laws/PerInstr.lean ====
section
/-! SUPPORT. One lemma per command: its word is legal by the field rules of 30_encoding.md R73, and it occupies the fields R71
gives it. -/

namespace Sys2Proof.Laws

/-- The opcode of a command (30_encoding.md R76, column OP). -/
def opOf : Instr → Nat
  | .nop => 0x00
  | .pidUpdate _ => 0x01
  | .pidReset _ => 0x02
  | .pidResetAll => 0x03
  | .mix _ => 0x04
  | .tick => 0x05

/-- The word of the command is legal and its OP field is the command's opcode. -/
def LegalEncoding.Statement (i : Instr) : Prop := legalWord (encode i) = true ∧ opField (encode i) = opOf i

theorem LegalEncoding.nop : LegalEncoding.Statement .nop := by unfold LegalEncoding.Statement; decide

theorem LegalEncoding.pidUpdate (a : Axis) : LegalEncoding.Statement (.pidUpdate a) := by
  unfold LegalEncoding.Statement; cases a <;> decide

theorem LegalEncoding.pidReset (a : Axis) : LegalEncoding.Statement (.pidReset a) := by
  unfold LegalEncoding.Statement; cases a <;> decide

theorem LegalEncoding.pidResetAll : LegalEncoding.Statement .pidResetAll := by unfold LegalEncoding.Statement; decide

theorem LegalEncoding.mix (src : MixSource) : LegalEncoding.Statement (.mix src) := by
  unfold LegalEncoding.Statement; cases src <;> decide

theorem LegalEncoding.tick : LegalEncoding.Statement .tick := by unfold LegalEncoding.Statement; decide

end Sys2Proof.Laws
end

