-- ==== Sys2Proof/Laws/Step.lean ====
section
/-! SUPPORT. Said once: everything a command, a received byte, an event and a step can do. Later proofs take these cases instead
of unfolding exec, rxByte, perform and step. -/

namespace Sys2Proof.Machine

/-- Everything a command can do to the state (42_controller.md R120, R121; 40_pid.md R100-R103; 41_mixer.md R111). -/
inductive Executed : Instr → State → State → Prop where
  | nop (s : State) : Executed .nop s s
  | pidUpdate (a : Axis) (s : State) (check : pidCheckPasses s [a] = true) :
      Executed (.pidUpdate a) s (raiseWhen (pidSaturates (s32 s.dt) (s.bank a)) .ovf (encode (.pidUpdate a))
        (s.setBank a (updatedBank s.dupd (s32 s.dt) (s.bank a))))
  | pidUpdateDropped (a : Axis) (s : State) (check : pidCheckPasses s [a] = false) :
      Executed (.pidUpdate a) s (pidCheckErrors (encode (.pidUpdate a)) [a] s)
  | pidReset (a : Axis) (s : State) : Executed (.pidReset a) s (s.setBank a (clearedBank (s.bank a)))
  | pidResetAll (s : State) : Executed .pidResetAll s (s.mapBanks fun a => clearedBank (s.bank a))
  | mix (src : MixSource) (s : State) :
      Executed (.mix src) s (raiseWhen (mixSaturates s.matrix (mixOperand src s)) .ovf (encode (.mix src))
        (s.setAct (mixvec s.matrix (mixOperand src s))))
  | tickEnabled (s : State) (en : s.en = true) (check : pidCheckPasses s Axis.all = true) :
      Executed .tick s (tickUpdate (encode .tick) s)
  | tickDropped (s : State) (en : s.en = true) (check : pidCheckPasses s Axis.all = false) :
      Executed .tick s (pidCheckErrors (encode .tick) Axis.all s)
  | tickDisabled (s : State) (en : s.en = false) : Executed .tick s (tickDisabled s)

/-- A command answers a next state, and it is one of these cases. -/
theorem exec_completes (i : Instr) (s : State) : ∃ t, exec i s = .next t ∧ Executed i s t := by
  cases i with
  | nop => exact ⟨s, rfl, .nop s⟩
  | pidUpdate a =>
    cases h : pidCheckPasses s [a] with
    | true => exact ⟨_, by simp only [exec, execPidUpdate, h, if_true], .pidUpdate a s h⟩
    | false => exact ⟨_, by simp [exec, execPidUpdate, h], .pidUpdateDropped a s h⟩
  | pidReset a => exact ⟨_, rfl, .pidReset a s⟩
  | pidResetAll => exact ⟨_, rfl, .pidResetAll s⟩
  | mix src => exact ⟨_, rfl, .mix src s⟩
  | tick =>
    cases e : s.en with
    | false => exact ⟨_, by simp [exec, execTick, e], .tickDisabled s e⟩
    | true =>
      cases h : pidCheckPasses s Axis.all with
      | true => exact ⟨_, by simp only [exec, execTick, e, h, if_true], .tickEnabled s e h⟩
      | false => exact ⟨_, by simp [exec, execTick, e, h], .tickDropped s e h⟩

theorem executed_of_exec {i : Instr} {s t : State} (h : exec i s = .next t) : Executed i s t := by
  obtain ⟨u, hu, c⟩ := exec_completes i s
  rw [hu] at h
  injection h with h
  exact h ▸ c

/-- Everything a received byte can do to the state (43_decoder.md R131-R136). -/
inductive Received (b : Byte) (s : State) : State → Prop where
  | stored (m : s.mode = .aligned) (c : s.cnt ≠ 31) : Received b s (storeByte b s)
  | mismatch (m : s.mode = .aligned) (c : s.cnt = 31) (h : headerBad (storeByte b s) = true) :
      Received b s (headerMismatch (storeByte b s))
  | badChecksum (m : s.mode = .aligned) (c : s.cnt = 31) (h : headerBad (storeByte b s) = false)
      (k : checksumOk s.be (storeByte b s).buf = false) : Received b s (checksumFail (storeByte b s))
  | published (m : s.mode = .aligned) (c : s.cnt = 31) (h : headerBad (storeByte b s) = false)
      (k : checksumOk s.be (storeByte b s).buf = true) : Received b s (publish b (storeByte b s))
  | scanHit (m : s.mode = .scan0) (e : b = s.h0) : Received b s { s with mode := .scan1 }
  | scanMiss (m : s.mode = .scan0) (e : b ≠ s.h0) : Received b s s
  | headerFound (m : s.mode = .scan1) (e : b = s.h1) : Received b s (startFrame s)
  | headerRepeat (m : s.mode = .scan1) (e : b ≠ s.h1) (e' : b = s.h0) : Received b s s
  | headerLost (m : s.mode = .scan1) (e : b ≠ s.h1) (e' : b ≠ s.h0) : Received b s { s with mode := .scan0 }

theorem frameEnd_received (b : Byte) (s : State) (m : s.mode = .aligned) (c : s.cnt = 31) :
    Received b s (frameEnd b (storeByte b s)) := by
  unfold frameEnd
  by_cases h : headerBad (storeByte b s) = true
  · rw [if_pos h]
    exact .mismatch m c h
  · rw [if_neg h]
    have h' : headerBad (storeByte b s) = false := by simpa using h
    by_cases k : checksumOk s.be (storeByte b s).buf = true
    · rw [if_neg (by rw [Bool.not_eq_true', Bool.not_eq_false]; exact k)]
      exact .published m c h' k
    · have k' : checksumOk s.be (storeByte b s).buf = false := by simpa using k
      rw [if_pos (by rw [Bool.not_eq_true']; exact k')]
      exact .badChecksum m c h' k'

theorem rxByte_received (b : Byte) (s : State) : Received b s (rxByte b s) := by
  unfold rxByte
  split
  · rename_i m
    split
    · rename_i c; exact frameEnd_received b s m c
    · rename_i c; exact .stored m c
  · rename_i m
    split
    · rename_i e; exact .scanHit m e
    · rename_i e; exact .scanMiss m e
  · rename_i m
    split
    · rename_i e; exact .headerFound m e
    · rename_i e
      split
      · rename_i e'; exact .headerRepeat m e e'
      · rename_i e'; exact .headerLost m e e'

/-- Everything a write to an RW-L register can do (20_memory.md R55, R66). -/
inductive LockableWritten (addr : Addr) (r : Reg) (w : Word) (s : State) : State → Prop where
  | locked (l : s.lock = true) : LockableWritten addr r w s (raiseError .lockErr (addrInfo addr) s)
  | chmap (l : s.lock = false) (e : r = .chmap) (m : ChMap) (h : ChMap.ofWord w = some m) :
      LockableWritten addr r w s { s with chmap := m }
  | chmapIllegal (l : s.lock = false) (e : r = .chmap) (h : ChMap.ofWord w = none) :
      LockableWritten addr r w s (raiseError .busErr (addrInfo addr) s)
  | stored (l : s.lock = false) (e : r ≠ .chmap) : LockableWritten addr r w s (s.store r w)

theorem writeLockable_written (addr : Addr) (r : Reg) (w : Word) (s : State) :
    LockableWritten addr r w s (writeLockable addr r w s) := by
  unfold writeLockable
  split
  · exact .locked ‹_›
  · have l : s.lock = false := by simpa using ‹¬s.lock = true›
    split
    · split
      · exact .chmap l ‹_› _ ‹_›
      · exact .chmapIllegal l ‹_› ‹_›
    · exact .stored l ‹_›

/-- Everything an event can do, from the state `s` in which it is performed. -/
inductive Performed : Event → State → State → Prop where
  | reset (s : State) : Performed .reset s (doReset s)
  | read (addr : Addr) (size : Nat) (s : State) (r : Reg) (h : legalReg addr size = some r) :
      Performed (.host (.read addr size)) s { s with readData := some (s.read r) }
  | illegalRead (addr : Addr) (size : Nat) (s : State) (h : legalReg addr size = none) :
      Performed (.host (.read addr size)) s (raiseError .busErr (addrInfo addr) { s with readData := some 0 })
  | illegalWrite (addr : Addr) (size : Nat) (w : Word) (s : State) (h : legalReg addr size = none) :
      Performed (.host (.write addr size w)) s (raiseError .busErr (addrInfo addr) (clearResponse s))
  | writeRo (addr : Addr) (size : Nat) (w : Word) (s : State) (r : Reg) (h : legalReg addr size = some r)
      (k : r.access = .ro) : Performed (.host (.write addr size w)) s (raiseError .busErr (addrInfo addr) (clearResponse s))
  | writeRwl (addr : Addr) (size : Nat) (w : Word) (s t : State) (r : Reg) (h : legalReg addr size = some r)
      (k : r.access = .rwl) (c : LockableWritten addr r w (clearResponse s) t) : Performed (.host (.write addr size w)) s t
  | writeRw (addr : Addr) (size : Nat) (w : Word) (s : State) (r : Reg) (h : legalReg addr size = some r)
      (k : r.access = .rw) : Performed (.host (.write addr size w)) s ((clearResponse s).store r w)
  | writeStatus (addr : Addr) (size : Nat) (w : Word) (s : State) (h : legalReg addr size = some .status) :
      Performed (.host (.write addr size w)) s (acknowledge w (clearResponse s))
  | command (addr : Addr) (size : Nat) (w : Word) (s t : State) (h : legalReg addr size = some .cmd) (i : Instr)
      (d : decode w = .ok i) (c : Executed i (clearResponse s) t) : Performed (.host (.write addr size w)) s t
  | illegalCommand (addr : Addr) (size : Nat) (w : Word) (s : State) (h : legalReg addr size = some .cmd) (e : IllegalWord)
      (d : decode w = .error e) : Performed (.host (.write addr size w)) s (raiseError .cmdErr w (clearResponse s))
  | writeRxdata (addr : Addr) (size : Nat) (w : Word) (s t : State) (h : legalReg addr size = some .rxdata)
      (c : Received (w.setWidth 8) (clearResponse s) t) : Performed (.host (.write addr size w)) s t
  | rxByte (b : Byte) (s t : State) (c : Received b (clearResponse s) t) : Performed (.rxByte b) s t

theorem access_w1c {r : Reg} (h : r.access = .w1c) : r = .status := by
  cases r <;> first | rfl | (simp [Reg.access] at h; done) | (rename_i x; cases x <;> simp [Reg.access, AxisReg.access] at h)

theorem access_wo {r : Reg} (h : r.access = .wo) : r = .cmd ∨ r = .rxdata := by
  cases r <;>
    first
    | exact .inl rfl
    | exact .inr rfl
    | (simp [Reg.access] at h; done)
    | (rename_i x; cases x <;> simp [Reg.access, AxisReg.access] at h)

/-- A write answers a next state, one of the cases of Performed. -/
theorem busWrite_completes (addr : Addr) (size : Nat) (w : Word) (s : State) :
    ∃ t, busWrite addr size w (clearResponse s) = .next t ∧ Performed (.host (.write addr size w)) s t := by
  cases h : legalReg addr size with
  | none => exact ⟨_, by simp only [busWrite, h], .illegalWrite addr size w s h⟩
  | some r =>
    simp only [busWrite, h, writeReg]
    cases k : r.access with
    | ro => exact ⟨_, rfl, .writeRo addr size w s r h k⟩
    | rwl => exact ⟨_, rfl, .writeRwl addr size w s _ r h k (writeLockable_written _ _ _ _)⟩
    | rw => exact ⟨_, rfl, .writeRw addr size w s r h k⟩
    | w1c => exact ⟨_, rfl, .writeStatus addr size w s (access_w1c k ▸ h)⟩
    | wo =>
      rcases access_wo k with rfl | rfl
      · cases d : decode w with
        | ok i =>
          obtain ⟨t, ht, c⟩ := exec_completes i (clearResponse s)
          exact ⟨t, by simp only [performCommand, d, ht, if_true], .command addr size w s t h i d c⟩
        | error e => exact ⟨_, by simp only [performCommand, d, if_true], .illegalCommand addr size w s h e d⟩
      · exact ⟨_, by simp, .writeRxdata addr size w s _ h (rxByte_received _ _)⟩

/-- After a Reset every event answers a next state, one of the cases of Performed (60_exceptions.md R160). -/
theorem perform_completes (e : Event) (s : State) (h : s.seenReset = true) :
    ∃ t, perform e s = .next t ∧ Performed e s t := by
  cases e with
  | reset => exact ⟨_, rfl, .reset s⟩
  | rxByte b => exact ⟨_, by simp only [perform, h, if_true], .rxByte b s _ (rxByte_received _ _)⟩
  | host a =>
    cases a with
    | read addr size =>
      cases k : legalReg addr size with
      | none =>
        refine ⟨raiseError .busErr (addrInfo addr) { s with readData := some 0 }, ?_, .illegalRead addr size s k⟩
        simp only [perform, h, if_true, hostAccess, busRead, k]
        simp [clearResponse, h]
      | some r =>
        refine ⟨{ s with readData := some (s.read r) }, ?_, .read addr size s r k⟩
        simp only [perform, h, if_true, hostAccess, busRead, k, read_clearResponse]
        simp [clearResponse, h]
    | write addr size w =>
      obtain ⟨t, ht, c⟩ := busWrite_completes addr size w s
      exact ⟨t, by simp only [perform, h, if_true, hostAccess, ht], c⟩

/-- Before the first Reset only Reset answers a next state (70_reset_and_hazards.md R182). -/
theorem perform_before_reset {e : Event} {s : State} (h : s.seenReset = false) (ne : e ≠ .reset) :
    perform e s = .refused .beforeFirstReset := by
  cases e with
  | reset => exact absurd rfl ne
  | rxByte b => simp [perform, h]
  | host a => simp [perform, h]

/-- An event that answers a next state did one of the cases of Performed, and only Reset does so before the first Reset. -/
theorem performed_of_perform {e : Event} {s t : State} (h : perform e s = .next t) :
    Performed e s t ∧ (s.seenReset = true ∨ e = .reset) := by
  cases hs : s.seenReset with
  | true =>
    obtain ⟨u, hu, c⟩ := perform_completes e s hs
    rw [hu] at h
    injection h with h
    exact ⟨h ▸ c, .inl rfl⟩
  | false =>
    by_cases ne : e = .reset
    · subst ne
      injection h with h
      exact ⟨h ▸ .reset s, .inr rfl⟩
    · rw [perform_before_reset hs ne] at h
      exact absurd h (by simp)

/-- The state in which the next event is performed: the arrival is taken (a tie leaves its second event at the head). -/
def taken (s : State) (a : Arrival) (rest : List Arrival) : State :=
  { s with arrivals := (splitArrival a rest s.ties).2, ties := tiesAfter a s.ties }

theorem step_nil {s : State} (h : s.arrivals = []) : step s = .next s := by simp [step, nextEvent, h]

theorem step_cons {s : State} {a : Arrival} {rest : List Arrival} (h : s.arrivals = a :: rest) :
    step s = perform (splitArrival a rest s.ties).1 (taken s a rest) := by simp [step, nextEvent, h, taken]

theorem upcoming_cons {s : State} {a : Arrival} {rest : List Arrival} (h : s.arrivals = a :: rest) :
    s.upcoming = some (splitArrival a rest s.ties).1 := by simp [State.upcoming, h]

/-- Everything a step can do: nothing if no arrival is present, else the next event. -/
theorem step_cases {s t : State} (h : step s = .next t) :
    (s.arrivals = [] ∧ t = s) ∨
    ∃ a rest e, s.arrivals = a :: rest ∧ s.upcoming = some e ∧ perform e (taken s a rest) = .next t ∧
      Performed e (taken s a rest) t ∧ (s.seenReset = true ∨ e = .reset) := by
  cases ha : s.arrivals with
  | nil =>
    rw [step_nil ha] at h
    injection h with h
    exact .inl ⟨rfl, h.symm⟩
  | cons a rest =>
    rw [step_cons ha] at h
    have := performed_of_perform h
    exact .inr ⟨a, rest, _, rfl, upcoming_cons ha, h, this.1, this.2⟩

theorem runSteps_zero (s : State) : runSteps 0 s = .next s := rfl

/-- A run of one step more goes on from the state that step answers. -/
theorem runSteps_succ (k : Nat) {s t : State} (h : step s = .next t) : runSteps (k + 1) s = runSteps k t := by
  simp [runSteps, h]

theorem runSteps_refused (k : Nat) {s : State} {r : Refusal} (h : step s = .refused r) :
    runSteps (k + 1) s = .refused r := by simp [runSteps, h]

/-- A run that completes took a first step that completed. -/
theorem runSteps_succ_inv {k : Nat} {s u : State} (h : runSteps (k + 1) s = .next u) :
    ∃ t, step s = .next t ∧ runSteps k t = .next u := by
  cases hs : step s with
  | next t => exact ⟨t, rfl, by rw [← runSteps_succ k hs]; exact h⟩
  | fault r => cases r
  | refused r =>
    rw [runSteps, hs] at h
    exact absurd h (by simp)

/-- The statements' run is the host's. -/
theorem runSteps_eq_coreRun (k : Nat) (s : core.State) : runSteps k s = core.run k s := by
  induction k generalizing s with
  | zero => rfl
  | succ k ih =>
    have e := Host.Core.run.eq_def core (k + 1) s
    cases hs : step s with
    | next t =>
      have hs' : core.step s = .next t := hs
      simp only [hs'] at e
      exact (runSteps_succ k hs).trans ((ih t).trans e.symm)
    | fault r => cases r
    | refused r =>
      have hs' : core.step s = .refused r := hs
      simp only [hs'] at e
      exact (runSteps_refused k hs).trans e.symm

end Sys2Proof.Machine
end

