-- ==== Sys2Proof/Machine/AsmText.lean ====
section
/-! DEFINITION. The assembler's text (30_encoding.md R77, R78): one line of source to the statement it writes. Machine/Asm.lean
expands the statement to events. -/

namespace Sys2Proof.Machine

/-- White space between the parts of a line. -/
def isBlank (c : Char) : Bool := c == ' ' || c == '\t'

/-- A text without the white space at its ends. -/
def trimmed (l : List Char) : List Char := ((l.dropWhile isBlank).reverse.dropWhile isBlank).reverse

/-- `;` starts a comment (30_encoding.md R77). -/
def withoutComment (l : List Char) : List Char := l.takeWhile (· != ';')

/-- The parts of a text between the separators `c`. -/
def splitAtChar (c : Char) (l : List Char) : List (List Char) :=
  l.foldr (fun x acc =>
    if x == c then [] :: acc
    else match acc with
      | part :: more => (x :: part) :: more
      | [] => [[x]]) [[]]

/-- The operands of a statement, separated by commas. -/
def operandTexts (l : List Char) : List (List Char) :=
  if l.isEmpty then [] else (splitAtChar ',' l).map trimmed

/-- All of a list, if every element is there. -/
def allSome {α : Type} : List (Option α) → Option (List α)
  | [] => some []
  | x :: xs =>
    match x, allSome xs with
    | some v, some vs => some (v :: vs)
    | _, _ => none

/-- The value of a digit in base 10 or 16. -/
def digitOf (base : Nat) (c : Char) : Option Nat :=
  let n := c.toNat
  let v :=
    if 48 ≤ n ∧ n ≤ 57 then some (n - 48)
    else if 97 ≤ n ∧ n ≤ 102 then some (n - 87)
    else if 65 ≤ n ∧ n ≤ 70 then some (n - 55)
    else none
  v.filter (· < base)

/-- The number that one or more digits write. -/
def digitsOf (base : Nat) (l : List Char) : Option Nat :=
  if l.isEmpty then none
  else (allSome (l.map (digitOf base))).map fun ds => ds.foldl (fun acc d => acc * base + d) 0

/-- The real `r` of `q(r)` as a fraction n / d: an optional minus sign, digits, and an optional fraction part. How `r` may be
written R77 does not say: decimal digits with at most one point, which has a digit on both sides, so that `.5`, `5.`, `+5`, `5e1`
and `0x5` are malformed (DESIGN CHOICE, log 17). -/
def realOf (l : List Char) : Option (Int × Nat) :=
  let (negative, body) := match l with
    | '-' :: rest => (true, rest)
    | _ => (false, l)
  let value : Option (Nat × Nat) := match splitAtChar '.' body with
    | [whole] => (digitsOf 10 whole).map fun n => (n, 1)
    | [whole, fraction] => (digitsOf 10 (whole ++ fraction)).bind fun n =>
        if whole.isEmpty || fraction.isEmpty then none else some (n, 10 ^ fraction.length)
    | _ => none
  value.map fun (n, d) => (if negative then -(n : Int) else n, d)

/-- A number (30_encoding.md R77): decimal, `0x` hexadecimal, or `q(r)`, if it fits 32 bits. No sign outside `q(r)`, `0x` and
`q(` in lower case, blanks in `q(r)` at the ends of `r` alone (DESIGN CHOICE, log 17). -/
def numberOf (l : List Char) : Option Word :=
  match l with
  | '0' :: 'x' :: hex => ((digitsOf 16 hex).filter (· < 2 ^ 32)).map (BitVec.ofNat 32)
  | 'q' :: '(' :: rest =>
    if rest.getLast? = some ')' then
      ((realOf (trimmed rest.dropLast)).map fun (n, d) => qCode n d).bind fun k =>
        if -2 ^ 31 ≤ k ∧ k < 2 ^ 31 then some (BitVec.ofInt 32 k) else none
    else none
  | _ => ((digitsOf 10 l).filter (· < 2 ^ 32)).map (BitVec.ofNat 32)

/-- An axis index 0..3. -/
def axisIndexOf (n : Nat) : Option Axis := if n < 4 then some (axisAt n) else none

/-- An actuator index 0..3. -/
def actuatorIndexOf (n : Nat) : Option Actuator := if n < 4 then some (actuatorAt n) else none

/-- `<axis>` (30_encoding.md R77): roll, pitch, yaw, alt, or 0..3. Whether that number may be written in the 0x form R77 does not
say: it is read in decimal only (DESIGN CHOICE, log 17). -/
def axisOf (l : List Char) : Option Axis :=
  if l = "roll".toList then some .roll
  else if l = "pitch".toList then some .pitch
  else if l = "yaw".toList then some .yawRate
  else if l = "alt".toList then some .altitude
  else (digitsOf 10 l).bind axisIndexOf

/-- The indices of a register name, `[n]` after `[n]`, in decimal and without blanks (DESIGN CHOICE, log 17). -/
def indicesOf (l : List Char) : Option (List Nat) :=
  match splitAtChar '[' l with
  | [] :: parts => allSome (parts.map fun p => if p.getLast? = some ']' then digitsOf 10 p.dropLast else none)
  | _ => none

/-- A register of an axis bank by its name (10_state.md R25, R26, R27). -/
def axisRegOf (name : String) : Option AxisReg :=
  match name with
  | "KP" => some .kp
  | "KI" => some .ki
  | "KD" => some .kd
  | "ILIM" => some .ilim
  | "DEFSP" => some .defsp
  | "SENS" => some .sens
  | "SP" => some .sp
  | "MEAS" => some .meas
  | "ITERM" => some .iterm
  | "LASTERR" => some .lasterr
  | "PIDOUT" => some .pidout
  | _ => none

/-- A register without an index, by its name (20_memory.md R53). -/
def plainRegOf (name : String) : Option Reg :=
  match name with
  | "ID" => some .id
  | "CTRL" => some .ctrl
  | "STATUS" => some .status
  | "IRQEN" => some .irqen
  | "CMD" => some .cmd
  | "DT" => some .dt
  | "INPUTS" => some .inputs
  | "ERRINFO" => some .errinfo
  | "ERRCAUSE" => some .errcause
  | "HDR" => some .hdr
  | "CHMAP" => some .chmap
  | "RXDATA" => some .rxdata
  | "DEC_STATE" => some .decState
  | "FRAMES_OK" => some .framesOk
  | "CSUM_ERRS" => some .csumErrs
  | "RESYNCS" => some .resyncs
  | _ => none

/-- A register with one index, by its name (20_memory.md R53). -/
def indexedRegOf (name : String) (n : Nat) : Option Reg :=
  match name with
  | "ACT" => (actuatorIndexOf n).map .act
  | "MIXIN" => (axisIndexOf n).map .mixin
  | "CH" => if h : n < 14 then some (.ch ⟨n, h⟩) else none
  | _ =>
    match axisRegOf name, axisIndexOf n with
    | some r, some a => some (.axis a r)
    | _, _ => none

/-- `<reg>`, a register name such as `KP[0]` or `M[1][2]` (30_encoding.md R78). -/
def regOf (l : List Char) : Option Reg :=
  let name := String.ofList (l.takeWhile (· != '['))
  match indicesOf (l.dropWhile (· != '[')) with
  | some [] => plainRegOf name
  | some [n] => indexedRegOf name n
  | some [i, j] =>
    match name, actuatorIndexOf i, axisIndexOf j with
    | "M", some a, some b => some (.m a b)
    | _, _, _ => none
  | _ => none

/-- A byte operand of RX. -/
def byteOf (l : List Char) : Option Byte := ((numberOf l).filter (·.toNat < 256)).map (·.setWidth 8)

/-- A channel operand of FRAME. -/
def chanOf (l : List Char) : Option Chan := ((numberOf l).filter (·.toNat < 65536)).map (·.setWidth 16)

/-- The fourteen channels of FRAME. -/
def frameOf (cs : List Chan) : Option Stmt :=
  if h : cs.length = 14 then some (.frame ⟨cs.toArray, by simpa using h⟩) else none

/-- The statement that a mnemonic and its operands write (30_encoding.md R77, R78): names in the letters the rules print, and the
source of MIX as `pid` or `in`, not as 0 or 1 (DESIGN CHOICE, log 17). -/
def stmtOf (mnemonic : String) (ops : List (List Char)) : Option Stmt :=
  match mnemonic, ops with
  | "NOP", [] => some (.command .nop)
  | "PID.UPDATE", [a] => (axisOf a).map fun x => .command (.pidUpdate x)
  | "PID.RESET", [a] => (axisOf a).map fun x => .command (.pidReset x)
  | "PID.RESETALL", [] => some (.command .pidResetAll)
  | "MIX", [src] =>
    if src = "pid".toList then some (.command (.mix .pidout))
    else if src = "in".toList then some (.command (.mix .mixin))
    else none
  | "TICK", [] => some (.command .tick)
  | "WR", [r, v] =>
    match regOf r, numberOf v with
    | some reg, some w => some (.wr reg w)
    | _, _ => none
  | "RD", [r] => (regOf r).map .rd
  | "CLR", [m] => (numberOf m).map .clr
  | "RX", b :: bs => (allSome ((b :: bs).map byteOf)).map .rx
  | "FRAME", cs => (allSome (cs.map chanOf)).bind frameOf
  | "LOCKCFG", [v] => (numberOf v).map .lockcfg
  | _, _ => none

/-- What a line of source writes. -/
inductive Line where
  /-- Nothing, or a comment alone. -/
  | blank
  /-- One statement. -/
  | stmt (s : Stmt)
  /-- Not a line of the syntax. -/
  | malformed
deriving DecidableEq, Repr

/-- One line of assembler source (30_encoding.md R77): one statement, `;` starts a comment. -/
def parseLine (source : String) : Line :=
  let body := trimmed (withoutComment source.toList)
  if body.isEmpty then .blank
  else
    match stmtOf (String.ofList (body.takeWhile fun c => !isBlank c))
        (operandTexts (trimmed (body.dropWhile fun c => !isBlank c))) with
    | some s => .stmt s
    | none => .malformed

end Sys2Proof.Machine
end

