-- ==== Sys2Proof/Tests/Slice0.lean ====
section
/-! SUPPORT. Tests: ill-formed words, the decoding of written-out words, the worked examples of 95_test_vectors.md one event at a
time, and for each statement with hypotheses a concrete state that meets them. Expected values come from the spec. -/

open Sys2Proof Sys2Proof.Machine

namespace Sys2Proof.Tests

/-- What a test looks at in the state an outcome answers. -/
def seen {α : Type} (o : Host.Outcome State Fault Refusal) (look : State → α) : Option α :=
  match o with
  | .next t => some (look t)
  | .fault _ => none
  | .refused _ => none

/-- A register read as a signed number. -/
def num (s : State) (r : Reg) : Int := (s.read r).toInt

/-- The signed values of ACT[0..3]. -/
def acts (s : State) : List Int := Actuator.all.map fun i => num s (.act i)

/-- The signed values of one bank register on the four axes. -/
def banks (r : AxisReg) (s : State) : List Int := Axis.all.map fun a => num s (.axis a r)

/-- STATUS, ERRINFO and ERRCAUSE. -/
def records (s : State) : List Nat := [s.status.toNat, s.errinfo.toNat, s.errcause.toNat]

/-- The Reset state with the roll bank changed. -/
def withRoll (dt : Word) (f : AxisBank → AxisBank) : State :=
  State.setBank { State.reset with dt := dt } .roll (f AxisBank.reset)

/-- The frame buffer that holds these bytes. -/
def bufOf (l : List Byte) : Vector Byte 32 := Vector.ofFn fun i => l.getD i.val 0

/-- The state that has received bytes 0..30 of an aligned frame. -/
def due (s : State) (l : List Byte) : State := { s with cnt := 31, buf := bufOf l }

/-- The state with all four SENS set. -/
def withSens (a b c d : Word) : State :=
  State.mapBanks State.reset fun x =>
    { AxisBank.reset with sens := match x with | .roll => a | .pitch => b | .yawRate => c | .altitude => d }

/-! ## The command word -/

/-- 95_test_vectors.md CMD-1: OP 0x06 is unassigned. -/
theorem test_illformed_op : opAssigned 0x00000006 = false ∧ legalWord 0x00000006 = false := by decide

/-- CMD-7: bit 11 set. -/
theorem test_illformed_reserved : reservedClear 0x00000800 = false ∧ legalWord 0x00000800 = false := by decide

/-- CMD-9: PID.UPDATE with SRC = 1. -/
theorem test_illformed_source : srcUnused 0x00000401 = false ∧ legalWord 0x00000401 = false := by decide

/-- CMD-5: PID.RESETALL with AXIS = 1. -/
theorem test_illformed_axis : axisUnused 0x00000103 = false ∧ legalWord 0x00000103 = false := by decide

/-- CMD-1 to CMD-10: each is rejected, by the reason the vector names. -/
theorem test_illegal_words :
    decode 0x00000006 = .error .unassignedOp ∧ decode 0x000000FF = .error .unassignedOp ∧
    decode 0x00000100 = .error .strayAxis ∧ decode 0x00000400 = .error .straySource ∧
    decode 0x00000103 = .error .strayAxis ∧ decode 0x00000405 = .error .straySource ∧
    decode 0x00000800 = .error .reservedBits ∧ decode 0x80000001 = .error .reservedBits ∧
    decode 0x00000401 = .error .straySource ∧ decode 0x00000304 = .error .strayAxis := by decide

/-- 30_encoding.md R76: OP = 0x00 and nothing else. -/
theorem test_decode_nop : decode 0b00000000000000000000000000000000 = .ok .nop := by decide

/-- R76: OP = 0x01, AXIS = 2 in bits 9:8, written out bit by bit. -/
theorem test_decode_pidUpdate : decode 0b00000000000000000000001000000001 = .ok (.pidUpdate .yawRate) := by decide

/-- R76: OP = 0x02, AXIS = 3. -/
theorem test_decode_pidReset : decode 0b00000000000000000000001100000010 = .ok (.pidReset .altitude) := by decide

/-- R76: OP = 0x03. -/
theorem test_decode_pidResetAll : decode 0b00000000000000000000000000000011 = .ok .pidResetAll := by decide

/-- R76: OP = 0x04, SRC = 1 in bit 10. -/
theorem test_decode_mix : decode 0b00000000000000000000010000000100 = .ok (.mix .mixin) := by decide

/-- R76: OP = 0x05. -/
theorem test_decode_tick : decode 0b00000000000000000000000000000101 = .ok .tick := by decide

/-- CMD-1 as the next event after Reset: CMD_ERR with the word. -/
theorem test_illegal_word_raises :
    seen (step (State.reset.withFetchWord 32 0x00000006)) records = some [0x008, 0x00000006, 0x80000003] := by decide

/-! ## The commands -/

/-- 95_test_vectors.md PID-1 (Scenario A), word 0x00000001. -/
def scenarioA : State := withRoll 655 fun b => { b with kp := 39322, ilim := 65536, sp := 6554 }

theorem test_pidUpdate_scenarioA :
    seen (step (scenarioA.withFetchWord 32 0x00000001))
      (fun t => (banks .pidout t, banks .iterm t, banks .lasterr t, records t)) =
    some ([3932, 0, 0, 0], [65, 0, 0, 0], [0, 0, 0, 0], [0, 0, 0]) := by decide

/-- The first of the three updates of PID-15 (DUPD = 1, KD and DT 1.0). -/
def derivative : State :=
  { withRoll 65536 (fun b => { b with kd := 65536, sp := 65536 }) with ctrl := 0x6 }

theorem test_pidUpdate_derivative :
    seen (step (derivative.withFetchWord 32 0x00000001))
      (fun t => (banks .pidout t, banks .iterm t, banks .lasterr t, records t)) =
    some ([-65536, 0, 0, 0], [0, 0, 0, 0], [65536, 0, 0, 0], [0, 0, 0]) := by decide

/-- 40_pid.md R102, R103 and vectors RST-1, RST-2: four integrators [65, -3, 1000, 7], LASTERR = [1, 2, 3, 4]. -/
def woundUp : State :=
  State.mapBanks State.reset fun
    | .roll => { AxisBank.reset with iterm := 65, lasterr := 1 }
    | .pitch => { AxisBank.reset with iterm := -3, lasterr := 2 }
    | .yawRate => { AxisBank.reset with iterm := 1000, lasterr := 3 }
    | .altitude => { AxisBank.reset with iterm := 7, lasterr := 4 }

theorem test_pidReset_yaw :
    seen (step (woundUp.withFetchWord 32 0x00000202)) (fun t => (banks .iterm t, banks .lasterr t, records t)) =
    some ([65, -3, 0, 7], [1, 2, 3, 4], [0, 0, 0]) := by decide

theorem test_pidResetAll :
    seen (step (woundUp.withFetchWord 32 0x00000003)) (fun t => (banks .iterm t, banks .lasterr t, records t)) =
    some ([0, 0, 0, 0], [1, 2, 3, 4], [0, 0, 0]) := by decide

/-- The matrix of MIX-1. -/
def mix1 : PerActuator (PerAxis Word) :=
  { port := { roll := 65536, pitch := 0, yawRate := 0, altitude := -32768 }
    starboard := { roll := -65536, pitch := 0, yawRate := 0, altitude := -32768 }
    aft := { roll := 0, pitch := 65536, yawRate := 0, altitude := -32768 }
    rudder := { roll := 0, pitch := 0, yawRate := 65536, altitude := 0 } }

/-- MIX-1: the hand-computed example of 41_mixer.md R111. -/
theorem test_mix_in :
    seen (step (State.withFetchWord { State.reset with
        matrix := mix1, mixin := { roll := 16384, pitch := -32768, yawRate := 8192, altitude := 32768 } } 32 0x00000404))
      (fun t => (acts t, records t)) = some ([0, -32768, -49152, 8192], [0, 0, 0]) := by decide

/-- MIX-4: saturation of a row. -/
def mix4 : State :=
  { State.reset with
    matrix := { State.reset.matrix with port := { roll := 0x7FFFFFFF, pitch := 0, yawRate := 0, altitude := 0 } }
    mixin := { State.reset.mixin with roll := 0x7FFFFFFF } }

theorem test_mix_saturates :
    seen (step (mix4.withFetchWord 32 0x00000404)) (fun t => (acts t, records t)) =
    some ([2147483647, 0, 0, 0], [0x004, 0x00000404, 0x80000002]) := by decide

/-- TICK-4: Scenario A's gains on every axis, the matrix of MIX-1. -/
def tick4 : State :=
  { (State.mapBanks State.reset fun
      | .roll => { AxisBank.reset with kp := 39322, ilim := 65536, sp := 6554 }
      | _ => { AxisBank.reset with kp := 39322, ilim := 65536 }) with
    dt := 655, inputs := 1, matrix := mix1 }

theorem test_tick_enabled :
    seen (step (tick4.withFetchWord 32 0x00000005)) (fun t => (banks .iterm t, banks .pidout t, acts t, records t)) =
    some ([65, 0, 0, 0], [3932, 0, 0, 0], [3932, -3932, 0, 0], [0, 0, 0]) := by decide

/-- TICK-1: a disabled tick keeps PIDOUT. -/
def tick1 : State :=
  { (State.mapBanks State.reset fun
      | .roll => { AxisBank.reset with iterm := 65, pidout := 9 }
      | _ => { AxisBank.reset with pidout := 9 }) with
    act := { port := 5, starboard := 5, aft := 5, rudder := 5 } }

theorem test_tick_disabled :
    seen (step (tick1.withFetchWord 32 0x00000005)) (fun t => (banks .iterm t, banks .pidout t, acts t, records t)) =
    some ([0, 0, 0, 0], [9, 9, 9, 9], [0, 0, 0, 0], [0, 0, 0]) := by decide

/-- NOP-1. -/
theorem test_nop :
    seen (step (tick1.withFetchWord 32 0x00000000)) (fun t => (banks .iterm t, banks .pidout t, acts t, records t)) =
    some ([65, 0, 0, 0], [9, 9, 9, 9], [5, 5, 5, 5], [0, 0, 0]) := by decide

/-- 40_pid.md R101, corner cases: fxmul(-1, 1) = -1 and fxdiv(-1, 65536) = -1. -/
theorem test_rounding : fxmul (-1) 1 = -1 ∧ fxdiv (-1) 65536 = -1 ∧ fxdiv (-6554) 655 = -655760 := by decide

/-! ## The host bus, errors and the interrupt -/

/-- BUS-1, BUS-2, BUS-4: the identity word; an unmapped and a sub-word read. -/
theorem test_bus_reads :
    seen (hostAccess (.read 0x000 4) State.reset) (fun t => (t.readData, records t)) = some (some 0x41554B31, [0, 0, 0]) ∧
    seen (hostAccess (.read 0x024 4) State.reset) (fun t => (t.readData, records t)) =
      some (some 0, [0x010, 0x24, 0x80000004]) ∧
    seen (hostAccess (.read 0x004 2) State.reset) (fun t => (t.readData, records t)) =
      some (some 0, [0x010, 0x04, 0x80000004]) := by decide

/-- BUS-6, BUS-8, BUS-10: a write to ACT[0], to KI[0] and to INPUTS. -/
theorem test_bus_writes :
    seen (hostAccess (.write 0x240 4 1) State.reset) (fun t => (acts t, records t)) =
      some ([0, 0, 0, 0], [0x010, 0x240, 0x80000004]) ∧
    seen (hostAccess (.write 0x104 4 5) State.reset) (banks .ki) = some [5, 0, 0, 0] ∧
    seen (hostAccess (.write 0x018 4 0xFFFFFFFF) State.reset) (fun t => t.inputs) = some 1 := by decide

/-- BUS-9, both writes: CTRL keeps its four bits, and once locked the write is refused. -/
theorem test_bus_lock :
    seen (hostAccess (.write 0x004 4 0xFFFFFFFF) State.reset) (fun t => (t.ctrl, records t)) = some (0xF, [0, 0, 0]) ∧
    seen (hostAccess (.write 0x004 4 0) { State.reset with ctrl := 0xF }) (fun t => (t.ctrl, records t)) =
      some (0xF, [0x020, 0x004, 0x80000005]) := by decide

/-- BUS-11: W1C. -/
theorem test_bus_w1c :
    seen (hostAccess (.write 0x008 4 0x0FFFFE05) { State.reset with status := 0x1FF }) (fun t => t.status) = some 0x1FA := by
  decide

/-- BUS-13, BUS-14: CHMAP checked by field. -/
theorem test_bus_chmap :
    seen (hostAccess (.write 0x304 4 0x000E2310) State.reset) (fun t => (t.read .chmap, records t)) =
      some (0x00042310, [0x010, 0x304, 0x80000004]) ∧
    seen (hostAccess (.write 0x304 4 0xFFF42310) State.reset) (fun t => (t.read .chmap, records t)) =
      some (0x00042310, [0, 0, 0]) := by decide

/-- BUS-15: a write to RXDATA. -/
theorem test_bus_rxdata :
    seen (hostAccess (.write 0x308 4 0x0001FF20) State.reset) (fun t => (t.buf[0], t.read .decState)) =
      some (0x20, 0x00000100) := by decide

/-- IRQ-1, IRQ-2, IRQ-3. -/
theorem test_irq :
    State.irq { State.reset with status := 0x8 } = false ∧
    seen (hostAccess (.write 0x00C 4 0x8) { State.reset with status := 0x8 }) State.irq = some true ∧
    seen (hostAccess (.write 0x008 4 0x8) { State.reset with status := 0x8, irqen := 0x8 }) State.irq = some false := by decide

/-! ## The receiver -/

/-- F1 of 95_test_vectors.md. -/
def f1 : List Byte :=
  [0x20, 0x40, 0xD6, 0x06, 0xE2, 0x04, 0xE8, 0x03, 0xD0, 0x07, 0x09, 0x07] ++ (List.replicate 9 [0xDC, 0x05]).flatten ++
    [0x22, 0xF4]

/-- F2 of 95_test_vectors.md. -/
def f2 : List Byte := [0x20, 0x40, 0xFF, 0xFF] ++ (List.replicate 13 [0xDC, 0x05]).flatten ++ [0x34, 0xF2]

/-- F1be of 95_test_vectors.md. -/
def f1be : List Byte :=
  [0x20, 0x40, 0x06, 0xD6, 0x04, 0xE2, 0x03, 0xE8, 0x07, 0xD0, 0x07, 0x09] ++ (List.replicate 9 [0x05, 0xDC]).flatten ++
    [0xF4, 0x22]

/-- The setup of DEC-2. -/
def dec2 : State := due (withSens 65536 32768 131072 65536) f1

/-- DEC-2: F1 is published. -/
theorem test_dec_publish :
    (fun t : State => (banks .sp t, t.inputs, t.framesOk, records t, t.read .decState)) (rxByte 0xF4 dec2) =
    ([32768, -16384, 131072, -65536], 1, 1, [0x040, 0, 0], 0) := by decide

theorem test_dec_channels : (rxByte 0xF4 dec2).ch.toList.take 6 = [1750, 1250, 1000, 2000, 1801, 1500] := by decide

/-- The setup of DEC-3: F1 with byte 10 XOR 0x01. -/
def dec3 : State := due (withSens 65536 65536 65536 65536) (f1.set 10 0x08)

/-- DEC-3: the checksum fails. -/
theorem test_dec_checksum :
    (fun t : State => (banks .sp t, t.inputs, t.csumErrs, records t, t.read .decState)) (rxByte 0xF4 dec3) =
    ([0, 0, 0, 0], 0, 1, [0x080, 0, 0], 0) := by decide

/-- The setup of DEC-4: F1 with byte 0 = 0x21. -/
def dec4 : State := due State.reset (f1.set 0 0x21)

/-- DEC-4: a header mismatch. -/
theorem test_dec_header :
    (fun t : State => (t.resyncs, t.csumErrs, t.framesOk, records t, t.read .decState)) (rxByte 0xF4 dec4) =
    (1, 0, 0, [0x100, 0, 0], 1) := by decide

/-- DEC-5 and DEC-6: the scan. -/
theorem test_dec_scan :
    (rxByte 0x20 { State.reset with mode := .scan0 }).read .decState = 0x2 ∧
    (rxByte 0x20 { State.reset with mode := .scan1 }).read .decState = 0x2 ∧
    (rxByte 0x40 { State.reset with mode := .scan1 }).read .decState = 0x200 ∧
    (rxByte 0x33 { State.reset with mode := .scan1 }).read .decState = 0x1 := by decide

/-- DEC-7 and DEC-7b: the byte order of CTRL.BE. -/
theorem test_dec_bigEndian :
    (rxByte 0x22 (due { withSens 65536 65536 65536 65536 with ctrl := 0xC } f1be)).read (.axis .yawRate .sp) = 65536 ∧
    (rxByte 0x22 (due State.reset f1be)).csumErrs = 1 := by decide

/-- DEC-8: HDR_EN = 0. -/
theorem test_dec_noHeader :
    (rxByte 0xF4 (due { State.reset with ctrl := 0x0 } (((f1.set 0 0x00).set 1 0x00).set 30 0x82))).framesOk = 1 := by decide

/-- The setup of DEC-10. -/
def dec10 : State := due (withSens 0x7FFFFFFF 0 0 0) f2

/-- DEC-10: a publication that saturates. -/
theorem test_dec_saturates :
    (fun t : State => (banks .sp t, records t)) (rxByte 0xF2 dec10) =
    ([2147483647, 0, 0, 0], [0x044, 0xF2, 0x80000002]) := by decide

/-- The normalisation table of 95_test_vectors.md. -/
theorem test_norm :
    [0, 999, 1000, 1001, 1250, 1499, 1500, 1501, 1750, 1800, 1801, 2000, 2001, 65535].map normalise =
    [-196608, -65667, -65536, -65404, -32768, -131, 0, 131, 32768, 39321, 39452, 65536, 65667, 8393195] := by decide

/-- The examples of 30_encoding.md R77: q(0.6), q(0.1), q(0.01), q(-1). -/
theorem test_qCode : qCode 6 10 = 39322 ∧ qCode 1 10 = 6554 ∧ qCode 1 100 = 655 ∧ qCode (-1) 1 = -65536 := by decide

/-- 30_encoding.md R77 and lines of the programs P1 to P4 of 95_test_vectors.md. -/
theorem test_parse_commands :
    ["NOP", "PID.UPDATE roll", "PID.RESET 2", "PID.RESETALL", "MIX in", "  TICK   ; #3 (disabled)", "; comment", "PID.UPDATE 4"].map
      parseLine =
    [.stmt (.command .nop), .stmt (.command (.pidUpdate .roll)), .stmt (.command (.pidReset .yawRate)),
      .stmt (.command .pidResetAll), .stmt (.command (.mix .mixin)), .stmt (.command .tick), .blank, .malformed] := by decide

theorem test_parse_pseudo :
    ["WR KP[0], q(0.6)", "WR M[1][0], q(-1)", "RD ACT[1]", "CLR 0x1FF", "LOCKCFG 0x4", "RX 0x21, 0x40"].map parseLine =
    [.stmt (.wr (.axis .roll .kp) 0x0000999A), .stmt (.wr (.m .starboard .roll) 0xFFFF0000), .stmt (.rd (.act .starboard)),
      .stmt (.clr 0x1FF), .stmt (.lockcfg 4), .stmt (.rx [0x21, 0x40])] := by decide

/-- The forms of a real that log 17 chooses: digits with a point between digits. -/
theorem test_realOf :
    ["0.6", "-1", ".5", "5.", "5e1", "+5"].map (fun r => realOf r.toList) =
      [some (6, 10), some (-1, 1), none, none, none, none] := by decide

/-- P1: `WR M[1][0], q(-1)` is BusWrite(0x210, 4, 0xFFFF0000), `LOCKCFG 0x4` is BusWrite(0x004, 4, 0x00000005). -/
theorem test_expand :
    Stmt.expand State.reset (.wr (.m .starboard .roll) 0xFFFF0000) = [.host (.write 0x210 4 0xFFFF0000)] ∧
    Stmt.expand State.reset (.lockcfg 4) = [.host (.write 0x004 4 0x00000005)] ∧
    Stmt.expand State.reset (.command (.mix .mixin)) = [.host (.write 0x010 4 0x00000404)] := by decide

/-! ## Witnesses: for each statement with hypotheses, values that meet them together -/

theorem witness_IllegalWordOnlyRaisesCmdErr :
    6 ≤ opField 0x00000006 ∧ reservedField 0x00000800 ≠ 0 ∧ (srcField 0x00000405 = true ∧ opField 0x00000405 ≠ 4) ∧
    (axisField 0x00000100 ≠ 0 ∧ opField 0x00000100 ≠ 1 ∧ opField 0x00000100 ≠ 2) ∧
    ¬(6 ≤ opField 0x00000005 ∨ reservedField 0x00000005 ≠ 0 ∨ (srcField 0x00000005 = true ∧ opField 0x00000005 ≠ 4) ∨
      (axisField 0x00000005 ≠ 0 ∧ opField 0x00000005 ≠ 1 ∧ opField 0x00000005 ≠ 2)) ∧
    ¬(6 ≤ opField 0x00000404 ∨ reservedField 0x00000404 ≠ 0 ∨ (srcField 0x00000404 = true ∧ opField 0x00000404 ≠ 4) ∨
      (axisField 0x00000404 ≠ 0 ∧ opField 0x00000404 ≠ 1 ∧ opField 0x00000404 ≠ 2)) := by decide

theorem witness_OpcodeRowsDisjoint : rowPidReset ∈ opcodeMap ∧ rowPidReset.matches 0x00000302 = true := by decide

/-- A state after Reset whose next event is the write of a word to CMD. -/
def commanded (w : Word) : State := { State.reset with arrivals := [.one (.host (.write 0x010 4 w))] }

/-- The clauses: a write to CMD, a table row, a host access that is no command, a byte of the rx port. -/
theorem witness_StepPerformsDecodedCommand :
    let read : State := { State.reset with arrivals := [.one (.host (.read 0x000 4))] }
    let byte : State := { State.reset with arrivals := [.one (.rxByte 0x20)] }
    (commanded 0x00000404).seenReset = true ∧
    (commanded 0x00000404).arrivals = .one (.host (.write 0x010 4 0x00000404)) :: [] ∧
    decode 0x00000404 = .ok (.mix .mixin) ∧ decodeTableWord 32 0x00000301 = some (.pidUpdate .altitude) ∧
    (read.seenReset = true ∧ read.arrivals = .one (.host (.read 0x000 4)) :: []) ∧
    (byte.seenReset = true ∧ byte.arrivals = .one (.rxByte 0x20) :: []) := by decide

theorem witness_NopChangesNothing : opField 0x80000000 = 0 ∧ (0x80000000 : Word) ≠ 0 := by decide

/-- DT and ILIM at their least legal values, in both derivative modes. -/
theorem witness_PidUpdateComputesControlLaw :
    let s := withRoll 1 id
    0 < (s.read .dt).toInt ∧ 0 ≤ (s.read (.axis .roll .ilim)).toInt ∧ (s.read .ctrl).getLsbD 1 = false ∧
      (State.read { s with ctrl := 0x6 } .ctrl).getLsbD 1 = true := by decide

/-- The cases of the OVF clause: the least sum out of range, and the greatest in range. -/
theorem witness_PidUpdate_saturation :
    OutOfRange ((0x7FFFFFFF : Word).toInt + (1 : Word).toInt) ∧ ¬OutOfRange ((0x7FFFFFFF : Word).toInt + (0 : Word).toInt) ∧
    OutOfRange ((0x80000000 : Word).toInt + (0xFFFFFFFF : Word).toInt) ∧
    ¬OutOfRange ((0x80000000 : Word).toInt + (0 : Word).toInt) := by unfold OutOfRange; decide

/-- DT_ERR alone, LIM_ERR alone and both, for PID.UPDATE. -/
theorem witness_FailedCheckWritesOnlyRecords_update :
    (∃ a, Instr.pidUpdate .roll = .pidUpdate a ∧ [Axis.roll] = [a]) ∧
    (((withRoll 0 id).read .dt).toInt ≤ 0 ∧ ¬∃ a ∈ [Axis.roll], ((withRoll 0 id).read (.axis a .ilim)).toInt < 0) ∧
    (¬((withRoll 1 fun b => { b with ilim := -1 }).read .dt).toInt ≤ 0 ∧
      ∃ a ∈ [Axis.roll], ((withRoll 1 fun b => { b with ilim := -1 }).read (.axis a .ilim)).toInt < 0) ∧
    (((withRoll (-5) fun b => { b with ilim := -1 }).read .dt).toInt ≤ 0 ∧
      ∃ a ∈ [Axis.roll], ((withRoll (-5) fun b => { b with ilim := -1 }).read (.axis a .ilim)).toInt < 0) := by
  refine ⟨⟨.roll, rfl, rfl⟩, ?_⟩
  decide

/-- TICK-2 and TICK-3: an enabled tick whose check fails. -/
theorem witness_FailedCheckWritesOnlyRecords_tick :
    (Instr.tick = .tick ∧ (State.read { State.reset with inputs := 1 } .inputs).getLsbD 0 = true ∧ Axis.all = Axis.all) ∧
    (State.read { State.reset with inputs := 1 } .dt).toInt ≤ 0 ∧
    ¬((State.read { withRoll 655 (fun b => { b with ilim := -1 }) with inputs := 1 } .dt).toInt ≤ 0) ∧
    ∃ a ∈ Axis.all, (State.read { withRoll 655 (fun b => { b with ilim := -1 }) with inputs := 1 } (.axis a .ilim)).toInt < 0 := by
  decide

theorem witness_IntegratorStaysWithinLimit :
    (0 < (scenarioA.read .dt).toInt ∧ 0 ≤ (scenarioA.read (.axis .roll .ilim)).toInt ∧
      ∃ t, exec (.pidUpdate .roll) scenarioA = .next t) ∧
    ((tick4.read .inputs).getLsbD 0 = true ∧ 0 < (tick4.read .dt).toInt ∧
      (∀ a, 0 ≤ (tick4.read (.axis a .ilim)).toInt) ∧ ∃ t, exec .tick tick4 = .next t) := by
  refine ⟨⟨by decide, by decide, (exec_completes _ _).imp fun _ h => h.1⟩, by decide, by decide, ?_,
    (exec_completes _ _).imp fun _ h => h.1⟩
  intro a; cases a <;> decide

/-- The cases of MIX's OVF clause: a row out of range, and all rows in range. -/
theorem witness_MixAppliesMatrix :
    OutOfRange (floorDiv ((mix4.read (.m .port .roll)).toInt * (mix4.read (.mixin .roll)).toInt) (2 ^ 16)) ∧
    ¬OutOfRange (floorDiv ((State.reset.read (.m .port .roll)).toInt * (State.reset.read (.mixin .roll)).toInt) (2 ^ 16)) := by
  unfold OutOfRange; decide

theorem witness_MixingIsLinearUpToRounding :
    let v : PerAxis Int := { roll := 32768, pitch := 0, yawRate := 0, altitude := 1 }
    (∀ i, ¬OutOfRange (((mix1.get i).get .roll).toInt * v.get .roll / 2 ^ 16)) ∧
    ∀ i, saturates (rowRounded mix1 v i) = false ∧
      saturates (rowRounded mix1 (PerAxis.gen fun a => v.get a + v.get a) i) = false := by
  unfold OutOfRange
  refine ⟨fun i => ?_, fun i => ?_⟩ <;> cases i <;> decide

theorem witness_DisabledTickGoesNeutral : (tick1.read .inputs).getLsbD 0 = false := by decide

theorem witness_EnabledTickUpdatesAndMixes :
    (tick4.read .inputs).getLsbD 0 = true ∧ 0 < (tick4.read .dt).toInt ∧
    (∀ a, 0 ≤ (tick4.read (.axis a .ilim)).toInt) ∧ (tick4.read .ctrl).getLsbD 1 = false ∧
    (State.read { tick4 with ctrl := 0x6 } .ctrl).getLsbD 1 = true := by
  refine ⟨by decide, by decide, ?_, by decide, by decide⟩
  intro a; cases a <;> decide

/-- TICK-4 with DEFSP and SP of pitch at the greatest code, so that PID.UPDATE pitch is the last to raise OVF. -/
def tickOvf : State :=
  tick4.setBank .pitch { AxisBank.reset with ilim := 65536, defsp := 0x7FFFFFFF, sp := 0x7FFFFFFF }

/-- The clauses: no OVF, OVF raised last by one PID.UPDATE, and a disabled tick. -/
theorem witness_TickEqualsUpdatesThenMix :
    let commands := [.pidUpdate .roll, .pidUpdate .pitch, .pidUpdate .yawRate, .pidUpdate .altitude, .mix .pidout]
    ((tick4.read .inputs).getLsbD 0 = true ∧ 0 < (tick4.read .dt).toInt ∧
      (∀ a, 0 ≤ (tick4.read (.axis a .ilim)).toInt) ∧ lastOvf commands tick4 = none) ∧
    ((tickOvf.read .inputs).getLsbD 0 = true ∧ 0 < (tickOvf.read .dt).toInt ∧
      (∀ a, 0 ≤ (tickOvf.read (.axis a .ilim)).toInt) ∧ lastOvf commands tickOvf = some (.pidUpdate .pitch)) ∧
    (tick1.read .inputs).getLsbD 0 = false := by
  refine ⟨⟨by decide, by decide, ?_, by decide⟩, ⟨by decide, by decide, ?_, by decide⟩, by decide⟩ <;>
    (intro a; cases a <;> decide)

theorem witness_DatapathWidthsSuffice :
    (0 < (1 : Int) ∧ (1 : Int) ≤ 2 ^ 31 - 1 ∧ 0 < (2 ^ 31 - 1 : Int) ∧ (2 ^ 31 - 1 : Int) ≤ 2 ^ 31 - 1) ∧
    0 ≤ AxisBank.reset.ilim.toInt := by decide

/-- PID-2: the setpoint equals the measurement. -/
def onTarget : State :=
  withRoll 655 fun b => { b with kp := 39322, ki := 65536, kd := 65536, ilim := 65536, sp := 6554, meas := 6554 }

theorem witness_ZeroErrorContributesNothing :
    0 < (onTarget.read .dt).toInt ∧ 0 ≤ (onTarget.read (.axis .roll .ilim)).toInt ∧
    (onTarget.read (.axis .roll .defsp)).toInt + (onTarget.read (.axis .roll .sp)).toInt =
      (onTarget.read (.axis .roll .meas)).toInt ∧
    onTarget.read (.axis .roll .iterm) = 0 ∧ onTarget.read (.axis .roll .lasterr) = 0 := by decide

/-- The step of a state after Reset with one arrival answers a next state. -/
theorem one_arrival (s : State) (e : Event) (h : s.seenReset = true) (ha : s.arrivals = [.one e]) :
    ∃ t, step s = .next t ∧ s.upcoming = some e :=
  let ⟨t, ht, _⟩ := perform_completes e (taken s (.one e) []) h
  ⟨t, (step_cons ha).trans ht, upcoming_cons ha⟩

/-- A disabled block with a wound-up integrator and, on roll, LASTERR nonzero with KD = 0, about to get a write of INPUTS. -/
def wound : State :=
  { withRoll 1 (fun b => { b with iterm := 5, lasterr := 3, meas := 7 }) with
    status := 0x40, framesOk := 1, arrivals := [.one (.host (.write 0x018 4 1))] }

/-- The enabled block it is compared with: the same measurement, every other register as after Reset. -/
def freshBlock : State := { withRoll 1 (fun b => { b with meas := 7 }) with inputs := 1 }

theorem witness_ReenabledTickIsFresh :
    ∃ t u, (wound.read .inputs).getLsbD 0 = false ∧ exec .tick wound = .next t ∧
      (∀ k < 1, ∀ v, runSteps k t = .next v → v.upcoming ≠ some .reset ∧ ∀ i, ¬issues i v) ∧ runSteps 1 t = .next u ∧
      (u.read .inputs).getLsbD 0 = true ∧ 0 < (u.read .dt).toInt ∧ (∀ a, 0 ≤ (u.read (.axis a .ilim)).toInt) ∧
      (∀ a, u.read (.axis a .lasterr) = 0 ∨ u.read (.axis a .kd) = 0) ∧
      (freshBlock.read .inputs).getLsbD 0 = true ∧
      (∀ a, freshBlock.read (.axis a .iterm) = 0 ∧ freshBlock.read (.axis a .lasterr) = 0) ∧
      KeepsRegs readByTick u freshBlock ∧ u.read .status ≠ freshBlock.read .status := by
  refine ⟨tickDisabled wound, State.store (clearResponse { tickDisabled wound with arrivals := [] }) .inputs 1, by decide, rfl,
    ?_, rfl, by decide, by decide, ?_, ?_, by decide, ?_, ?_, by decide⟩
  · intro k hk v hv
    obtain rfl : k = 0 := by omega
    injection hv with hv
    subst hv
    refine ⟨by decide, ?_⟩
    rintro i ⟨addr, w, h1, h2, -⟩
    obtain ⟨rfl, -⟩ : 0x018 = addr ∧ (1 : Word) = w := by simpa [State.upcoming, tickDisabled, wound, splitArrival] using h1
    exact absurd h2 (by decide)
  · intro a; cases a <;> decide
  · intro a; cases a <;> first | exact .inl rfl | exact .inr rfl
  · intro a; cases a <;> exact ⟨rfl, rfl⟩
  · intro r h
    cases r with
    | dt => rfl
    | m i j => rfl
    | axis a x => cases x <;> first | (cases a <;> rfl) | (simp [readByTick] at h)
    | _ => exact h.elim

/-- PID.UPDATE roll as the next event, with LASTERR nonzero. -/
def legacy : State := { commanded 0x00000001 with axes := (withRoll 1 fun b => { b with lasterr := 7 }).axes, dt := 1 }

theorem witness_LegacyModeNeverWritesLasterr :
    (legacy.dupd = false ∧ legacy.upcoming ≠ some .reset ∧ ∃ t, step legacy = .next t) ∧
    ((∀ a, (commanded 0x00000001).read (.axis a .lasterr) = 0) ∧
      (∀ k < 1, ∀ u, runSteps k (commanded 0x00000001) = .next u → u.dupd = false) ∧
      ∃ t, runSteps 1 (commanded 0x00000001) = .next t) := by
  refine ⟨⟨by decide, by decide, ?_⟩, ?_, ?_, ?_⟩
  · obtain ⟨t, h, -⟩ := one_arrival legacy _ rfl rfl
    exact ⟨t, h⟩
  · intro a; cases a <;> rfl
  · intro k hk u hu
    obtain rfl : k = 0 := by omega
    injection hu with hu
    subst hu
    decide
  · obtain ⟨t, h, -⟩ := one_arrival (commanded 0x00000001) _ rfl rfl
    exact ⟨t, by rw [runSteps_succ 0 h]; rfl⟩

theorem witness_PrimitivesRoundAsDefined :
    (0 < (1 : Int) ∧ (-65536 : Int) ≠ 0) ∧ ((-2147483649 : Int) < -2 ^ 31 ∧ (2 ^ 31 - 1 : Int) < 2147483648 ∧
      ¬OutOfRange (-2147483648) ∧ ¬OutOfRange 2147483647) ∧ (-100 : Int) ≤ 100 := by unfold OutOfRange; decide

/-- The first byte of a frame and the 31st. -/
theorem witness_AlignedByteIsStored :
    (State.reset.mode = .aligned ∧ State.reset.cnt ≠ 31) ∧
    (State.mode { State.reset with cnt := 30 } = .aligned ∧ State.cnt { State.reset with cnt := 30 } ≠ 31) := by decide

theorem witness_HeaderMismatchEntersScan :
    lastByteDue dec4 ∧ dec4.hdrEn = true ∧ ((dec4.frameWith 0xF4)[0] ≠ dec4.h0 ∨ (dec4.frameWith 0xF4)[1] ≠ dec4.h1) := by
  unfold lastByteDue; decide

/-- With the header passing, and with no header defined. -/
theorem witness_ChecksumFailureDropsFrame :
    (lastByteDue dec3 ∧ (dec3.hdrEn = true → (dec3.frameWith 0xF4)[0] = dec3.h0 ∧ (dec3.frameWith 0xF4)[1] = dec3.h1) ∧
      checksumOk dec3.be (dec3.frameWith 0xF4) = false) ∧
    (lastByteDue { dec4 with ctrl := 0x0 } ∧ State.hdrEn { dec4 with ctrl := 0x0 } = false ∧
      checksumOk false (dec4.frameWith 0xF4) = false) := by
  unfold lastByteDue; decide

/-- Without and with a setpoint that saturates. -/
theorem witness_ValidFrameIsPublished :
    (lastByteDue dec2 ∧ (dec2.hdrEn = true → (dec2.frameWith 0xF4)[0] = dec2.h0 ∧ (dec2.frameWith 0xF4)[1] = dec2.h1) ∧
      checksumOk dec2.be (dec2.frameWith 0xF4) = true ∧
      ∀ a, ¬OutOfRange (fxmul (normalise (channelWords dec2.be (dec2.frameWith 0xF4))[dec2.designated (chmapPlace a)])
        (dec2.read (.axis a .sens)).toInt)) ∧
    (lastByteDue dec10 ∧ (dec10.hdrEn = true → (dec10.frameWith 0xF2)[0] = dec10.h0 ∧ (dec10.frameWith 0xF2)[1] = dec10.h1) ∧
      checksumOk dec10.be (dec10.frameWith 0xF2) = true ∧
      OutOfRange (fxmul (normalise (channelWords dec10.be (dec10.frameWith 0xF2))[dec10.designated (chmapPlace .roll)])
        (dec10.read (.axis .roll .sens)).toInt)) := by
  unfold lastByteDue OutOfRange
  refine ⟨⟨by decide, by decide, by decide, ?_⟩, by decide, by decide, by decide, by decide⟩
  intro a; cases a <;> decide

/-- The channels of the CHMAP fields after Reset, and with YAW and ALT exchanged (10_state.md R33). -/
theorem test_chmap_fields :
    [0, 4, 8, 12, 16].map State.reset.designated = [0, 1, 3, 2, 4] ∧
    seen (hostAccess (.write 0x304 4 0x00043210) State.reset)
      (fun t => (t.designated (chmapPlace .yawRate), t.designated (chmapPlace .altitude), t.chmap.channel .yawRate)) =
      some (2, 3, 2) := by decide

/-- Each clause of the scan, with H0 = 0x20 and H1 = 0x40; and H0 = H1, where the H1 clause applies alone. -/
theorem witness_ScanFindsHeaderPair :
    DecMode.scan0 ≠ .aligned ∧ DecMode.scan1 ≠ .aligned ∧ State.reset.h0 = 0x20 ∧ State.reset.h1 = 0x40 ∧
    (0x33 : Byte) ≠ State.reset.h0 ∧ (0x20 : Byte) ≠ State.reset.h1 ∧
    State.h0 { State.reset with hdr := 0x00005555 } = 0x55 ∧ State.h1 { State.reset with hdr := 0x00005555 } = 0x55 := by decide

theorem witness_ReceiverNeverStops : State.reset.seenReset = true := rfl

theorem witness_FrameRoundTrip :
    State.reset.seenReset = true ∧ State.reset.mode = .aligned ∧ State.reset.cnt = 0 := by decide

/-- DEC-4 (a bad header) and DEC-11 (an intact header, byte 20 XOR 0xFF), from Reset. -/
theorem witness_ValidFrameAfterCorruptedIsPublished :
    (State.reset.seenReset = true ∧ State.reset.mode = .aligned ∧ State.reset.cnt = 0 ∧ State.reset.hdrEn = true) ∧
    ((bufOf (f1.set 0 0x21))[0] ≠ State.reset.h0 ∨ (bufOf (f1.set 0 0x21))[1] ≠ State.reset.h1) ∧
    (¬((bufOf (f1.set 20 0x23))[0] ≠ State.reset.h0 ∨ (bufOf (f1.set 20 0x23))[1] ≠ State.reset.h1) ∧
      checksumOk State.reset.be (bufOf (f1.set 20 0x23)) = false) ∧
    ∃ u, runSteps 0 (State.reset.receiving (f1.set 0 0x21 ++ f1)) = .next u := by
  refine ⟨by decide, by decide, by decide, _, rfl⟩

theorem witness_NoHeaderNeverResyncs :
    State.mode { dec4 with ctrl := 0x0 } = .aligned ∧ State.hdrEn { dec4 with ctrl := 0x0 } = false := by decide

theorem witness_StaleBytesAreNeverRead :
    SameButStale (commanded 0x00000005) { commanded 0x00000005 with buf := Vector.replicate 32 0xFF } ∧
    ∃ t, step (commanded 0x00000005) = .next t := by
  refine ⟨⟨⟨_, rfl⟩, fun i hi => absurd hi (by simp [commanded, State.reset])⟩, ?_⟩
  obtain ⟨t, h, -⟩ := one_arrival (commanded 0x00000005) _ rfl rfl
  exact ⟨t, h⟩

/-- The first and the last mapped address. -/
theorem witness_RegisterMapRoundTrip : legalReg 0x000 4 = some .id ∧ legalReg 0x374 4 = some (.ch 13) := by decide

/-- BUS-4, BUS-3 and BUS-2: a wrong size, a misaligned address, an unmapped one. -/
theorem witness_IllegalAccessOnlyRaisesBusErr :
    (2 : Nat) ≠ 4 ∧ (0x002 : Addr).toNat % 4 ≠ 0 ∧ ¬∃ r : Reg, r.address = (0x024 : Addr).toNat := by
  refine ⟨by decide, by decide, ?_⟩
  rintro ⟨r, h⟩
  have h : r.address = 0x24 := h
  cases r <;> simp only [Reg.address] at h <;> omega

/-- Every STATUS bit set, and an error recorded. -/
def allCauses : State := { commanded 0x00000005 with status := 0x1FF, errinfo := 7, errcause := 0x80000003 }

theorem allCauses_legal : LegalState allCauses :=
  ⟨by decide, by decide, by decide, by decide, by decide, .inr ⟨.cmdErr, by decide⟩, fun _ => rfl⟩

theorem witness_LegalReadHasNoSideEffect : LegalState allCauses := allCauses_legal

theorem witness_WriteThenReadReturnsData :
    (Reg.axis .roll .sp ≠ .chmap ∧ (Reg.axis .roll .sp).access = .rw) ∧
    (Reg.ctrl ≠ .chmap ∧ Reg.ctrl.access = .rwl ∧ State.reset.lock = false) := by decide

theorem witness_RefusedWriteOnlyRaises :
    (Reg.ch 13).access = .ro ∧ Reg.ctrl.access = .rwl ∧ State.lock { State.reset with ctrl := 0x5 } = true := by decide

/-- Fields at 13 and at 14. -/
theorem witness_ChmapWriteIsCheckedByField :
    State.reset.lock = false ∧ (∀ lo ∈ [0, 4, 8, 12, 16], ((0x000DDDDD : Word).extractLsb' lo 4).toNat ≤ 13) ∧
    ¬(∀ lo ∈ [0, 4, 8, 12, 16], ((0x000EDDDD : Word).extractLsb' lo 4).toNat ≤ 13) := by decide

theorem witness_RxdataWriteIsRxByte :
    let s : State := { State.reset with arrivals := [.one (.host (.write 0x308 4 0x0001FF20))] }
    s.seenReset = true ∧ s.arrivals = .one (.host (.write 0x308 4 0x0001FF20)) :: [] := by decide

theorem witness_StatusBitsAreSticky :
    (∃ t, step allCauses = .next t) ∧ allCauses.upcoming ≠ some .reset ∧ ¬writesReg .status allCauses ∧
    allCauses.status.getLsbD 8 = true := by
  obtain ⟨t, h, hu⟩ := one_arrival allCauses (.host (.write 0x010 4 0x00000005)) rfl rfl
  refine ⟨⟨t, h⟩, by rw [hu]; decide, ?_, by decide⟩
  rintro ⟨addr, w, h1, h2⟩
  rw [hu] at h1
  injection h1 with h1
  injection h1 with h1
  injection h1 with h1
  subst h1
  exact absurd h2 (by decide)

theorem witness_ResetRestoresEverything :
    State.arrivals { wound with arrivals := [.one .reset] } = .one .reset :: [] := rfl

theorem witness_NothingRunsBeforeReset :
    let s : State := { State.reset with seenReset := false, arrivals := [.one (.rxByte 0x20)] }
    let r : State := { State.reset with seenReset := false, arrivals := [.one .reset] }
    (s.seenReset = false ∧ s.upcoming = some (.rxByte 0x20) ∧ Event.rxByte 0x20 ≠ .reset) ∧
    (r.seenReset = false ∧ r.upcoming = some .reset) := by decide

theorem witness_TieIsOneOfBothOrders :
    State.arrivals { State.reset with arrivals := [.tie (.read 0x000 4) 0x20] } = .tie (.read 0x000 4) 0x20 :: [] := rfl

theorem witness_StepKeepsInvariant : LegalState allCauses ∧ ∃ t, step allCauses = .next t := by
  obtain ⟨t, h, -⟩ := one_arrival allCauses _ rfl rfl
  exact ⟨allCauses_legal, t, h⟩

/-- A locked block about to receive a write of KP[0]. -/
def lockedBlock : State := { State.reset with ctrl := 0x5, arrivals := [.one (.host (.write 0x100 4 0x0000999A))] }

theorem witness_LockedConfigurationIsImmutable :
    lockedBlock.lock = true ∧ (∀ k < 1, ∀ u, runSteps k lockedBlock = .next u → u.upcoming ≠ some .reset) ∧
    (∃ t, runSteps 1 lockedBlock = .next t) ∧ (Reg.axis .roll .kp).access = .rwl := by
  refine ⟨by decide, ?_, ?_, by decide⟩
  · intro k hk u hu
    obtain rfl : k = 0 := by omega
    injection hu with hu
    subst hu
    decide
  · obtain ⟨t, h, -⟩ := one_arrival lockedBlock _ rfl rfl
    exact ⟨t, by rw [runSteps_succ 0 h]; rfl⟩

theorem witness_NoRunStopsAfterReset : lockedBlock.seenReset = true := rfl

/-- A step that writes none of the registers named: a write of KP[0]. -/
theorem witness_OnlyNamedEventsWriteOutputs :
    (∃ t, step lockedBlock = .next t) ∧ lockedBlock.upcoming ≠ some .reset ∧ (∀ i, ¬issues i lockedBlock) ∧
    (∀ a, ¬writesReg (.axis a .meas) lockedBlock) ∧ ¬publishes lockedBlock := by
  obtain ⟨t, h, hu⟩ := one_arrival lockedBlock (.host (.write 0x100 4 0x0000999A)) rfl rfl
  have at100 : ∀ {addr : Addr} {w : Word}, lockedBlock.upcoming = some (.host (.write addr 4 w)) → addr = 0x100 := by
    intro addr w h1
    rw [hu] at h1
    injection h1 with h1
    injection h1 with h1
    injection h1 with h1
    exact h1.symm
  refine ⟨⟨t, h⟩, by rw [hu]; decide, ?_, ?_, ?_⟩
  · rintro i ⟨addr, w, h1, h2, -⟩
    exact absurd (at100 h1 ▸ h2) (by decide)
  · rintro a ⟨addr, w, h1, h2⟩
    exact absurd (at100 h1 ▸ h2) (by cases a <;> decide)
  · rintro ⟨b, -, h2, -⟩
    exact absurd h2.2 (by decide)

end Sys2Proof.Tests
end

section
/-! PROOFS. The statements of 10_state.md: what DEC_STATE shows (R36), and the values after Reset (R41). -/

namespace Sys2Proof.Machine

/-! ## DEC_STATE (10_state.md R36) -/

/-- There is no MODE code 3, so the code fits its two bits. -/
theorem DecMode.code_le_two (m : DecMode) : m.code ≤ 2 := by
  cases m <;> decide

/-- The sum that makes the word does not wrap, so its two fields do not disturb each other. -/
theorem toNat_read_decState (s : State) : (s.read .decState).toNat = s.mode.code + 256 * s.cnt.val := by
  have hmode := s.mode.code_le_two
  have hcnt := s.cnt.isLt
  rw [read_decState, BitVec.toNat_ofNat]
  omega

theorem modeField_read_decState (s : State) : ((s.read .decState).extractLsb' 0 2).toNat = s.mode.code := by
  have hmode := s.mode.code_le_two
  rw [BitVec.extractLsb'_toNat, toNat_read_decState, Nat.shiftRight_eq_div_pow]
  omega

theorem cntField_read_decState (s : State) : ((s.read .decState).extractLsb' 8 5).toNat = s.cnt.val := by
  have hmode := s.mode.code_le_two
  have hcnt := s.cnt.isLt
  rw [BitVec.extractLsb'_toNat, toNat_read_decState, Nat.shiftRight_eq_div_pow]
  omega

/-- The reserved bits of DEC_STATE read 0, by the finite table of the words it can show. -/
theorem reserved_read_decState (s : State) : s.read .decState &&& ~~~decStateMask = 0 := by
  have table (m : DecMode) : ∀ c : Fin 32, BitVec.ofNat 32 (m.code + 256 * c.val) &&& ~~~decStateMask = 0 := by
    cases m <;> decide
  rw [read_decState]
  exact table s.mode s.cnt

/-- Settles O24: one lemma per field of the word; access type and reset value are the definitions' own. -/
theorem decStateShowsModeAndCount : Obligations.DecStateShowsModeAndCount := by
  refine ⟨fun s => ⟨?_, cntField_read_decState s, reserved_read_decState s⟩, rfl, rfl⟩
  rw [modeField_read_decState]
  cases s.mode <;> rfl

/-! ## The state after Reset (10_state.md R41) -/

@[simp] theorem AxisBank.read_reset (r : AxisReg) : AxisBank.reset.read r = 0 := by
  cases r <;> rfl

@[simp] theorem bank_reset (a : Axis) : State.reset.bank a = AxisBank.reset := by
  cases a <;> rfl

@[simp] theorem matrix_reset (i : Actuator) (j : Axis) : (State.reset.matrix.get i).get j = 0 := by
  cases i <;> cases j <;> rfl

@[simp] theorem act_reset (i : Actuator) : State.reset.act.get i = 0 := by
  cases i <;> rfl

@[simp] theorem mixin_reset (j : Axis) : State.reset.mixin.get j = 0 := by
  cases j <;> rfl

@[simp] theorem ch_reset (k : Fin 14) : State.reset.ch[k] = 0 := by
  simp [State.reset]

@[simp] theorem buf_reset (i : Fin 32) : State.reset.buf[i] = 0 := by
  simp [State.reset]

/-- Settles O50: the indexed registers by the lemmas above, every other register by evaluation. -/
theorem resetValues : Obligations.ResetValues := by
  refine ⟨fun r => ?_, rfl, rfl, buf_reset, rfl, fun i => ?_⟩
  · cases r with
    | axis a r => simp
    | m i j => simp
    | act i => simp
    | mixin j => simp
    | ch k => rw [read_ch, ch_reset]; rfl
    | _ => rfl
  · simp [State.actPort]

end Sys2Proof.Machine
end

section
/-! PROOFS. The statements of 20_memory.md: an access that is not legal (R52, R58), a legal read (R54), and a write to CHMAP (R66). -/

namespace Sys2Proof.Machine

/-! ## The register map (20_memory.md R52, R53)

The decoding of an address against the table of addresses, one lemma per part of the map. -/

theorem index_axisAt (n : Nat) : (axisAt n).index = n % 4 := by
  have hlt : n % 4 < 4 := Nat.mod_lt n (by decide)
  unfold axisAt
  generalize n % 4 = k at hlt
  interval_cases k <;> rfl

theorem index_actuatorAt (n : Nat) : (actuatorAt n).index = n % 4 := by
  have hlt : n % 4 < 4 := Nat.mod_lt n (by decide)
  unfold actuatorAt
  generalize n % 4 = k at hlt
  interval_cases k <;> rfl

theorem offset_of_axisRegAt {n : Nat} {r : AxisReg} (h : axisRegAt n = some r) : r.offset = 4 * n := by
  unfold axisRegAt at h
  split at h <;> cases h <;> rfl

theorem address_of_controlRegAt {n : Nat} {r : Reg} (h : controlRegAt n = some r) : r.address = 4 * n := by
  unfold controlRegAt at h
  split at h <;> cases h <;> rfl

theorem address_of_receiverRegAt {n : Nat} {r : Reg} (h : receiverRegAt n = some r) : r.address = 0x300 + 4 * n := by
  unfold receiverRegAt at h
  split at h <;> cases h <;> rfl

/-- The ranges of the map, from 0x000 up. -/
theorem address_of_regAtWord {n : Nat} {r : Reg} (h : regAtWord n = some r) : r.address = 4 * n := by
  unfold regAtWord at h
  split_ifs at h
  · exact address_of_controlRegAt h
  · obtain ⟨x, hx, rfl⟩ := Option.map_eq_some_iff.mp h
    have hoff := offset_of_axisRegAt hx
    simp only [Reg.address, index_axisAt]
    omega
  · cases h
    simp only [Reg.address, index_axisAt, index_actuatorAt]
    omega
  · cases h
    simp only [Reg.address, index_actuatorAt]
    omega
  · cases h
    simp only [Reg.address, index_axisAt]
    omega
  · have haddr := address_of_receiverRegAt h
    omega
  · cases h
    simp only [Reg.address]
    omega

/-- A legal access has size 4 and an aligned address, that of the register it reaches (20_memory.md R52). -/
theorem access_of_legalReg {addr : Addr} {size : Nat} {r : Reg} (h : legalReg addr size = some r) :
    size = 4 ∧ addr.toNat % 4 = 0 ∧ r.address = addr.toNat := by
  unfold legalReg at h
  split_ifs at h with hlegal
  obtain ⟨hsize, haligned⟩ := hlegal
  have haddr := address_of_regAtWord h
  exact ⟨hsize, haligned, by omega⟩

theorem regAtWord_address (r : Reg) : regAtWord (r.address / 4) = some r := by
  cases r with
  | axis a x => cases a <;> cases x <;> rfl
  | m i j => cases i <;> cases j <;> rfl
  | act i => cases i <;> rfl
  | mixin j => cases j <;> rfl
  | ch k => revert k; decide
  | _ => rfl

theorem address_lt_and_aligned (r : Reg) : r.address < 2 ^ 12 ∧ r.address % 4 = 0 := by
  cases r with
  | axis a x => cases a <;> cases x <;> decide
  | m i j => cases i <;> cases j <;> decide
  | act i => cases i <;> decide
  | mixin j => cases j <;> decide
  | ch k => revert k; decide
  | _ => decide

/-- Every register is reached by a 4-byte access at its address (20_memory.md R53). -/
theorem legalReg_address (r : Reg) : legalReg (BitVec.ofNat 12 r.address) 4 = some r := by
  obtain ⟨hlt, haligned⟩ := address_lt_and_aligned r
  have htoNat : (BitVec.ofNat 12 r.address).toNat = r.address := by
    rw [BitVec.toNat_ofNat, Nat.mod_eq_of_lt hlt]
  rw [legalReg, htoNat, if_pos ⟨rfl, haligned⟩, regAtWord_address]

theorem legalReg_eq_none {addr : Addr} {size : Nat}
    (h : size ≠ 4 ∨ addr.toNat % 4 ≠ 0 ∨ ¬∃ r : Reg, r.address = addr.toNat) : legalReg addr size = none := by
  rw [Option.eq_none_iff_forall_ne_some]
  intro r hr
  obtain ⟨hsize, haligned, haddr⟩ := access_of_legalReg hr
  rcases h with hbad | hbad | hbad
  · exact hbad hsize
  · exact hbad haligned
  · exact hbad ⟨r, haddr⟩

/-! ## An access that is not legal (20_memory.md R52, R58) -/

theorem recorded_raiseError (c : Cause) (info : Word) (s : State) : Recorded c info s (raiseError c info s) := by
  refine ⟨fun n hn => ?_, rfl, ?_⟩
  · rw [raiseError_status, BitVec.getLsbD_or, getLsbD_bitWord _ hn]
  · cases c <;> rfl

/-- What no record shows stays, by the laws of a raised error (60_exceptions.md R162). -/
theorem onlyRecords_raiseError (c : Cause) (info : Word) (s : State) : OnlyRecords c info s (raiseError c info s) :=
  ⟨recorded_raiseError c info s, read_raiseError s c info, sameHidden_raiseError s c info⟩

theorem hostAccess_read_illegal {addr : Addr} {size : Nat} (h : legalReg addr size = none) (s : State) :
    hostAccess (.read addr size) s = .next (raiseError .busErr (addrInfo addr) { s with readData := some 0 }) := by
  simp only [hostAccess, busRead, h]

theorem hostAccess_write_illegal {addr : Addr} {size : Nat} (h : legalReg addr size = none) (w : Word) (s : State) :
    hostAccess (.write addr size w) s = .next (raiseError .busErr (addrInfo addr) s) := by
  simp only [hostAccess, busWrite, h]

/-- Settles O39: no register is reached, so the access is the raised error; the read also answers 0, which the statement's
frame sets aside. -/
theorem illegalAccessOnlyRaisesBusErr : Obligations.IllegalAccessOnlyRaisesBusErr := by
  intro addr size s hbad
  have hnone := legalReg_eq_none hbad
  have hrecords := onlyRecords_raiseError .busErr (addrInfo addr) s
  exact ⟨⟨_, hostAccess_read_illegal hnone s, rfl, hrecords⟩,
    fun w => ⟨_, hostAccess_write_illegal hnone w s, hrecords⟩⟩

/-! ## A legal read (20_memory.md R54) -/

theorem hostAccess_read_legal (r : Reg) (s : State) :
    hostAccess (.read (BitVec.ofNat 12 r.address) 4) s = .next { s with readData := some (s.read r) } := by
  simp only [hostAccess, busRead, legalReg_address]

/-- A number of `n` bits leaves the word's bits from `n` on 0. -/
theorem and_not_lowBits_eq_zero {w : Word} {n : Nat} (h : w.toNat < 2 ^ n) :
    w &&& ~~~BitVec.ofNat 32 (2 ^ n - 1) = 0 := by
  apply BitVec.eq_of_getLsbD_eq
  intro i hi
  rw [BitVec.getLsbD_and, BitVec.getLsbD_not, BitVec.getLsbD_ofNat, Nat.testBit_two_pow_sub_one]
  by_cases hin : i < n
  · simp [hin, hi]
  · have hbit : w.getLsbD i = false :=
      Nat.testBit_lt_two_pow (h.trans_le (Nat.pow_le_pow_right (by decide) (not_lt.mp hin)))
    simp [hbit]

/-- Each field is below 16, so the sum that makes the word does not wrap. -/
theorem toNat_chmapWord (m : ChMap) : m.word.toNat =
    m.roll.val + 0x10 * m.pitch.val + 0x100 * m.yaw.val + 0x1000 * m.alt.val + 0x10000 * m.ench.val := by
  rw [ChMap.word, BitVec.toNat_ofNat]
  omega

theorem toNat_chmapWord_lt (m : ChMap) : m.word.toNat < 2 ^ 20 := by
  rw [toNat_chmapWord]
  omega

theorem reserved_read_chmap (s : State) : s.read .chmap &&& ~~~chmapMask = 0 :=
  and_not_lowBits_eq_zero (n := 20) (toNat_chmapWord_lt s.chmap)

theorem reserved_read_ch (s : State) (k : Fin 14) : s.read (.ch k) &&& ~~~chMask = 0 := by
  refine and_not_lowBits_eq_zero (n := 16) ?_
  rw [read_ch, BitVec.toNat_setWidth_of_le (by decide)]
  exact (s.ch[k]).isLt

theorem LegalState.errcause_reserved {s : State} (h : LegalState s) : s.errcause &&& ~~~errcauseMask = 0 := by
  obtain ⟨hnone, -⟩ | ⟨c, hc⟩ := h.errcause_form
  · rw [hnone]; rfl
  · rw [hc]; cases c <;> rfl

/-- Reserved bits read 0: the invariant for the registers that are stored words, the form of the word for DEC_STATE, CHMAP and
CH, and nothing to show for a register with all 32 bits. -/
theorem LegalState.reserved_read {s : State} (h : LegalState s) (r : Reg) : s.read r &&& ~~~r.mask = 0 := by
  cases r with
  | ctrl => exact h.ctrl_reserved
  | status => exact h.status_reserved
  | irqen => exact h.irqen_reserved
  | inputs => exact h.inputs_reserved
  | hdr => exact h.hdr_reserved
  | errcause => exact h.errcause_reserved
  | decState => exact reserved_read_decState s
  | chmap => exact reserved_read_chmap s
  | ch k => exact reserved_read_ch s k
  | _ => exact and_not_lowBits_eq_zero (n := 32) (BitVec.isLt _)

/-- Settles O40. -/
theorem legalReadHasNoSideEffect : Obligations.LegalReadHasNoSideEffect :=
  fun r s hlegal => ⟨hostAccess_read_legal r s, hlegal.reserved_read r, read_cmd s, read_rxdata s⟩

/-! ## A write to CHMAP (20_memory.md R66) -/

theorem chmapField_eq_some_iff {w : Word} {lo : Nat} {k : Fin 14} :
    chmapField w lo = some k ↔ (w.extractLsb' lo 4).toNat = k.val := by
  unfold chmapField
  split_ifs with h
  · rw [Option.some_inj, Fin.ext_iff]
  · have hk := k.isLt
    simp only [false_iff]
    omega

/-- A word is accepted as some contents exactly if its five fields are the five channel numbers. -/
theorem chmapOfWord_eq_some_iff {w : Word} {m : ChMap} :
    ChMap.ofWord w = some m ↔
      (w.extractLsb' 0 4).toNat = m.roll.val ∧ (w.extractLsb' 4 4).toNat = m.pitch.val ∧
        (w.extractLsb' 8 4).toNat = m.yaw.val ∧ (w.extractLsb' 12 4).toNat = m.alt.val ∧
        (w.extractLsb' 16 4).toNat = m.ench.val := by
  simp only [← chmapField_eq_some_iff]
  unfold ChMap.ofWord
  constructor
  · intro h
    split at h
    · cases h
      exact ⟨‹_›, ‹_›, ‹_›, ‹_›, ‹_›⟩
    · cases h
  · rintro ⟨hroll, hpitch, hyaw, halt, hench⟩
    simp only [hroll, hpitch, hyaw, halt, hench]

theorem exists_chmapOfWord_iff (w : Word) :
    (∃ m, ChMap.ofWord w = some m) ↔ ∀ lo ∈ [0, 4, 8, 12, 16], (w.extractLsb' lo 4).toNat ≤ 13 := by
  simp only [chmapOfWord_eq_some_iff, List.forall_mem_cons, List.not_mem_nil, false_implies, implies_true, and_true]
  constructor
  · rintro ⟨m, hroll, hpitch, hyaw, halt, hench⟩
    omega
  · rintro ⟨hroll, hpitch, hyaw, halt, hench⟩
    exact ⟨⟨⟨_, Nat.lt_succ_of_le hroll⟩, ⟨_, Nat.lt_succ_of_le hpitch⟩, ⟨_, Nat.lt_succ_of_le hyaw⟩,
      ⟨_, Nat.lt_succ_of_le halt⟩, ⟨_, Nat.lt_succ_of_le hench⟩⟩, rfl, rfl, rfl, rfl, rfl⟩

/-- Accepted contents read as the written word without its reserved bits: five hexadecimal digits make up bits 19:0. -/
theorem chmapWord_of_ofWord {w : Word} {m : ChMap} (h : ChMap.ofWord w = some m) : m.word = w &&& 0xFFFFF := by
  obtain ⟨hroll, hpitch, hyaw, halt, hench⟩ := chmapOfWord_eq_some_iff.mp h
  simp only [BitVec.extractLsb'_toNat, Nat.shiftRight_eq_div_pow] at hroll hpitch hyaw halt hench
  have hmask : (w &&& 0xFFFFF).toNat = w.toNat % 2 ^ 20 := Nat.and_two_pow_sub_one_eq_mod w.toNat 20
  apply BitVec.eq_of_toNat_eq
  rw [toNat_chmapWord, hmask]
  omega

theorem keepsRegs_setChmap (s : State) (m : ChMap) : KeepsRegs (fun r => r ≠ .chmap) s { s with chmap := m } := by
  intro r hr
  cases r with
  | chmap => exact absurd rfl hr
  | _ => rfl

theorem sameHidden_setChmap (s : State) (m : ChMap) : SameHidden s { s with chmap := m } :=
  ⟨rfl, rfl, rfl, rfl, rfl, rfl, rfl⟩

theorem hostAccess_write_chmap (w : Word) (s : State) :
    hostAccess (.write 0x304 4 w) s = .next (writeLockable 0x304 .chmap w s) := by
  have hreg : legalReg 0x304 4 = some .chmap := legalReg_address .chmap
  simp only [hostAccess, busWrite, hreg, writeReg, Reg.access]

theorem writeLockable_chmap_some {addr : Addr} {w : Word} {s : State} {m : ChMap} (hlock : s.lock = false)
    (h : ChMap.ofWord w = some m) : writeLockable addr .chmap w s = { s with chmap := m } := by
  simp [writeLockable, hlock, h]

theorem writeLockable_chmap_none {addr : Addr} {w : Word} {s : State} (hlock : s.lock = false)
    (h : ChMap.ofWord w = none) : writeLockable addr .chmap w s = raiseError .busErr (addrInfo addr) s := by
  simp [writeLockable, hlock, h]

/-- Settles O43: the check by fields decides which of the two outcomes the write has. -/
theorem chmapWriteIsCheckedByField : Obligations.ChmapWriteIsCheckedByField := by
  intro w s hlock legal
  rw [hostAccess_write_chmap]
  constructor
  · intro hbad
    have hnone : ChMap.ofWord w = none := by
      rw [Option.eq_none_iff_forall_ne_some]
      exact fun m hm => hbad ((exists_chmapOfWord_iff w).mp ⟨m, hm⟩)
    exact ⟨_, congrArg _ (writeLockable_chmap_none hlock hnone), onlyRecords_raiseError .busErr (addrInfo 0x304) s⟩
  · intro hgood
    obtain ⟨m, hm⟩ := (exists_chmapOfWord_iff w).mpr hgood
    exact ⟨_, congrArg _ (writeLockable_chmap_some hlock hm), chmapWord_of_ofWord hm, keepsRegs_setChmap s m,
      sameHidden_setChmap s m⟩

end Sys2Proof.Machine
end

section
/-! PROOFS. The statements of 30_encoding.md: which words are commands (R72, R73), the byte order of a channel word (R82), and
the worked frame (R85). -/

namespace Sys2Proof.Machine

/-! ## The fields of a command word (30_encoding.md R71)

The four fields as digits of the word's number, and how a mask acts on each of them. -/

theorem opField_eq_mod (w : Word) : opField w = w.toNat % 256 := by
  rw [opField, BitVec.extractLsb'_toNat, Nat.shiftRight_zero]

theorem axisField_eq_div_mod (w : Word) : axisField w = w.toNat / 256 % 4 := by
  rw [axisField, BitVec.extractLsb'_toNat, Nat.shiftRight_eq_div_pow]

theorem srcField_eq_div_mod (w : Word) : srcField w = decide (w.toNat / 1024 % 2 = 1) := by
  rw [srcField, BitVec.getLsbD, Nat.testBit_eq_decide_div_mod_eq]

theorem reservedField_eq_div (w : Word) : reservedField w = w.toNat / 2048 := by
  have hlt := w.isLt
  rw [reservedField, BitVec.extractLsb'_toNat, Nat.shiftRight_eq_div_pow]
  omega

/-- The four fields cover the 32 bits, so they determine the word. -/
theorem word_eq_iff_fields {u v : Word} :
    u = v ↔ opField u = opField v ∧ reservedField u = reservedField v ∧ srcField u = srcField v ∧ axisField u = axisField v := by
  refine ⟨fun h => by simp [h], fun ⟨hop, hres, hsrc, haxis⟩ => BitVec.eq_of_toNat_eq ?_⟩
  rw [opField_eq_mod, opField_eq_mod] at hop
  rw [reservedField_eq_div, reservedField_eq_div] at hres
  rw [srcField_eq_div_mod, srcField_eq_div_mod, decide_eq_decide] at hsrc
  rw [axisField_eq_div_mod, axisField_eq_div_mod] at haxis
  omega

theorem opField_and (u v : Word) : opField (u &&& v) = opField u &&& opField v := by
  simp only [opField, BitVec.extractLsb'_and, BitVec.toNat_and]

theorem reservedField_and (u v : Word) : reservedField (u &&& v) = reservedField u &&& reservedField v := by
  simp only [reservedField, BitVec.extractLsb'_and, BitVec.toNat_and]

theorem srcField_and (u v : Word) : srcField (u &&& v) = (srcField u && srcField v) := BitVec.getLsbD_and

theorem axisField_and (u v : Word) : axisField (u &&& v) = axisField u &&& axisField v := by
  simp only [axisField, BitVec.extractLsb'_and, BitVec.toNat_and]

/-! ## The rows of the opcode map in fields (30_encoding.md R72, R76) -/

theorem opField_and_allOnes (w : Word) : opField w &&& 0xFF = opField w := by
  rw [opField_eq_mod, Nat.and_two_pow_sub_one_eq_mod _ 8, Nat.mod_mod]

theorem reservedField_and_allOnes (w : Word) : reservedField w &&& 0x1FFFFF = reservedField w := by
  have hlt := w.isLt
  rw [reservedField_eq_div, Nat.and_two_pow_sub_one_eq_mod _ 21]
  omega

theorem axisField_and_allOnes (w : Word) : axisField w &&& 3 = axisField w := by
  rw [axisField_eq_div_mod, Nat.and_two_pow_sub_one_eq_mod _ 2, Nat.mod_mod]

/-- R73 on SRC: a mask that leaves the bit to MIX asks for 0 under every other OP. -/
theorem srcField_masked_iff (w : Word) (op : Nat) :
    (srcField w && decide (op ≠ 4)) = false ↔ op = 4 ∨ srcField w = false := by
  cases srcField w <;> simp

/-- R73 on AXIS: a mask that leaves the field to PID.UPDATE and PID.RESET asks for 0 under every other OP. -/
theorem axisField_masked_iff (w : Word) (op : Nat) :
    (axisField w &&& if op = 1 ∨ op = 2 then 0 else 3) = 0 ↔ op = 1 ∨ op = 2 ∨ axisField w = 0 := by
  split_ifs with huses
  · simp [← or_assoc, huses]
  · simp [← or_assoc, huses, axisField_and_allOnes]

theorem matches_iff_fields (r : OpRow) (w : Word) :
    r.matches w = true ↔
      opField w &&& opField r.mask = opField r.pattern ∧ reservedField w &&& reservedField r.mask = reservedField r.pattern ∧
      (srcField w && srcField r.mask) = srcField r.pattern ∧ axisField w &&& axisField r.mask = axisField r.pattern := by
  rw [OpRow.matches, beq_iff_eq, word_eq_iff_fields, opField_and, reservedField_and, srcField_and, axisField_and]

theorem legalWord_iff (w : Word) :
    legalWord w = true ↔ opField w ≤ 5 ∧ reservedField w = 0 ∧ (opField w = 4 ∨ srcField w = false) ∧
      (opField w = 1 ∨ opField w = 2 ∨ axisField w = 0) := by
  simp [legalWord, opAssigned, reservedClear, srcUnused, axisUnused, and_assoc, or_assoc]

/-- How the six rows of R76 are made: a pattern holds OP alone, and a mask checks everything but the operand of that OP. -/
theorem fields_of_mem_opcodeMap : ∀ r ∈ opcodeMap,
    (opField r.pattern ≤ 5 ∧ reservedField r.pattern = 0 ∧ srcField r.pattern = false ∧ axisField r.pattern = 0) ∧
    opField r.mask = 0xFF ∧ reservedField r.mask = 0x1FFFFF ∧ srcField r.mask = decide (opField r.pattern ≠ 4) ∧
      axisField r.mask = if opField r.pattern = 1 ∨ opField r.pattern = 2 then 0 else 3 := by
  decide

/-- Match and mask say the same as the field rules of R73: a row matches the legal words of its OP. -/
theorem matches_iff_legalWord {r : OpRow} (hr : r ∈ opcodeMap) (w : Word) :
    r.matches w = true ↔ legalWord w = true ∧ opField w = opField r.pattern := by
  obtain ⟨⟨hop, hres, hsrc, haxis⟩, hopMask, hresMask, hsrcMask, haxisMask⟩ := fields_of_mem_opcodeMap r hr
  rw [matches_iff_fields, hopMask, hresMask, hsrcMask, haxisMask, opField_and_allOnes, reservedField_and_allOnes, hres, hsrc,
    haxis, and_comm, legalWord_iff]
  refine and_congr_left fun heq => ?_
  rw [← heq] at hop ⊢
  rw [srcField_masked_iff, axisField_masked_iff, and_iff_right hop]

theorem exists_row_of_opAssigned {op : Nat} (h : op ≤ 5) : ∃ r ∈ opcodeMap, opField r.pattern = op := by
  interval_cases op <;> decide

theorem exists_matches_iff_legalWord (w : Word) : (∃ r ∈ opcodeMap, r.matches w = true) ↔ legalWord w = true := by
  constructor
  · rintro ⟨r, hr, hmatch⟩
    exact ((matches_iff_legalWord hr w).mp hmatch).1
  · intro hlegal
    obtain ⟨r, hr, hop⟩ := exists_row_of_opAssigned ((legalWord_iff w).mp hlegal).1
    exact ⟨r, hr, (matches_iff_legalWord hr w).mpr ⟨hlegal, hop.symm⟩⟩

/-! ## The decoder (30_encoding.md R72, R73) -/

/-- The decoder asks the rows of the map in turn, and answers an error only after the last. -/
theorem exists_decode_iff_matches (w : Word) : (∃ i, decode w = .ok i) ↔ ∃ r ∈ opcodeMap, r.matches w = true := by
  simp only [opcodeMap, List.mem_cons, exists_eq_or_imp, decode]
  split_ifs <;> simp [*]

/-- The decoder, by its rows, accepts the words that R73 calls legal, by their fields. -/
theorem exists_decode_iff_legalWord (w : Word) : (∃ i, decode w = .ok i) ↔ legalWord w = true :=
  (exists_decode_iff_matches w).trans (exists_matches_iff_legalWord w)

/-- R73's list of what makes a word illegal is the complement of its field rules. -/
theorem not_legalWord_iff (w : Word) :
    ¬legalWord w = true ↔ 6 ≤ opField w ∨ reservedField w ≠ 0 ∨ (srcField w = true ∧ opField w ≠ 4) ∨
      (axisField w ≠ 0 ∧ opField w ≠ 1 ∧ opField w ≠ 2) := by
  have hop : 6 ≤ opField w ↔ ¬opField w ≤ 5 := Nat.not_le.symm
  rw [legalWord_iff, hop, ← Bool.not_eq_true]
  tauto

theorem performCommand_ok {w : Word} {i : Instr} (h : decode w = .ok i) (s : State) : performCommand w s = exec i s := by
  simp only [performCommand, h]

theorem performCommand_error {w : Word} {e : IllegalWord} (h : decode w = .error e) (s : State) :
    performCommand w s = .next (raiseError .cmdErr w s) := by
  simp only [performCommand, h]

/-- Settles O2: the listed words are those that are not legal, hence those that no row decodes. -/
theorem illegalWordOnlyRaisesCmdErr : Obligations.IllegalWordOnlyRaisesCmdErr := by
  intro w s
  rw [← not_legalWord_iff, ← exists_decode_iff_legalWord, not_not]
  constructor
  · intro hnone
    cases hdec : decode w with
    | ok i => exact absurd ⟨i, hdec⟩ hnone
    | error e => exact ⟨_, performCommand_error hdec s, onlyRecords_raiseError .cmdErr w s⟩
  · rintro ⟨i, hdec⟩
    exact ⟨i, hdec, performCommand_ok hdec s⟩

/-! ## The words of a frame (30_encoding.md R82) -/

theorem toNat_append_bytes (high low : Byte) : (high ++ low).toNat = 256 * high.toNat + low.toNat := by
  rw [BitVec.toNat_append, ← Nat.shiftLeft_add_eq_or_of_lt low.isLt, Nat.shiftLeft_eq, Nat.mul_comm]

theorem getElem_channelWords (be : Bool) (buf : Vector Byte 32) (k : Fin 14) :
    (channelWords be buf)[k] = frameWord be buf[2 + 2 * k.val] buf[3 + 2 * k.val] := by
  simp [channelWords, channelWord]

/-- Settles O22: the two bytes are joined in one order or the other, the first of the join weighing 256. -/
theorem channelWordByteOrder : Obligations.ChannelWordByteOrder := by
  intro buf k
  constructor
  · rw [getElem_channelWords, frameWord, if_neg Bool.false_ne_true, toNat_append_bytes, Nat.add_comm]
  · rw [getElem_channelWords, frameWord, if_pos rfl, toNat_append_bytes]

/-! ## The worked frame (30_encoding.md R85) -/

theorem frameBody_replicate (h0 h1 : Byte) (be : Bool) (c : Chan) :
    frameBody h0 h1 be (Vector.replicate 14 c) = [h0, h1] ++ (List.replicate 14 (wordBytes be c)).flatten := by
  rw [frameBody, Vector.toList_replicate, List.flatMap_replicate]
  rfl

/-- The body of R85: the reset header, and then 1500 = 0x05DC fourteen times, the low byte first. -/
theorem workedBody :
    frameBody 0x20 0x40 false (Vector.replicate 14 1500) = [0x20, 0x40] ++ (List.replicate 14 [0xDC, 0x05]).flatten := by
  have hbytes : wordBytes false 1500 = [0xDC, 0x05] := by decide
  rw [frameBody_replicate, hbytes]

theorem sum_workedBody :
    ((frameBody 0x20 0x40 false (Vector.replicate 14 1500)).map BitVec.toNat).sum = 0x0CAE := by
  rw [workedBody]
  decide

/-- Settles O37: body, sum, checksum word and frame, each from the one before it. -/
theorem workedFrameBytes : Obligations.WorkedFrameBytes := by
  have hchecksum : bodyChecksum (frameBody 0x20 0x40 false (Vector.replicate 14 1500)) = 0xF351 := by
    rw [bodyChecksum, sum_workedBody]
    decide
  have hbytes : wordBytes false 0xF351 = [0x51, 0xF3] := by decide
  refine ⟨?_, sum_workedBody, hchecksum⟩
  rw [frameBytes, hchecksum, hbytes, workedBody]

end Sys2Proof.Machine
end

section
/-! PROOFS. The statements of 40_pid.md: PID.RESET (R102), PID.RESETALL (R103), and a command whose check fails (R100). -/

namespace Sys2Proof.Machine

/-! ## The words of PID.RESET and PID.RESETALL (30_encoding.md R72, R74) -/

/-- Rows of different OP share no word (30_encoding.md R72). -/
theorem not_matches_of_matches {r r' : OpRow} (hr : r ∈ opcodeMap) (hr' : r' ∈ opcodeMap)
    (hne : opField r.pattern ≠ opField r'.pattern) {w : Word} (h : r.matches w = true) : r'.matches w = false := by
  rw [← Bool.not_eq_true]
  intro h'
  have hop := ((matches_iff_legalWord hr w).mp h).2
  have hop' := ((matches_iff_legalWord hr' w).mp h').2
  exact hne (hop.symm.trans hop')

theorem decode_pidReset_iff (w : Word) (a : Axis) :
    decode w = .ok (.pidReset a) ↔ rowPidReset.matches w = true ∧ axisOperand w = a := by
  cases h : rowPidReset.matches w with
  | true =>
    have hnop : rowNop.matches w = false := not_matches_of_matches (by decide) (by decide) (by decide) h
    have hupdate : rowPidUpdate.matches w = false := not_matches_of_matches (by decide) (by decide) (by decide) h
    simp [decode, hnop, hupdate, h]
  | false =>
    simp only [decode, h, Bool.false_eq_true, if_false]
    split_ifs <;> simp

theorem decode_pidResetAll_iff (w : Word) : decode w = .ok .pidResetAll ↔ rowPidResetAll.matches w = true := by
  cases h : rowPidResetAll.matches w with
  | true =>
    have hnop : rowNop.matches w = false := not_matches_of_matches (by decide) (by decide) (by decide) h
    have hupdate : rowPidUpdate.matches w = false := not_matches_of_matches (by decide) (by decide) (by decide) h
    have hreset : rowPidReset.matches w = false := not_matches_of_matches (by decide) (by decide) (by decide) h
    simp [decode, hnop, hupdate, hreset, h]
  | false =>
    simp only [decode, h, Bool.false_eq_true, if_false]
    split_ifs <;> simp

/-- The AXIS field numbers the axes as 00_scope.md R2 does. -/
theorem axisOperand_eq_iff (w : Word) (a : Axis) : axisOperand w = a ↔ axisField w = a.index := by
  have hlt : axisField w < 4 := by
    rw [axisField_eq_div_mod]
    omega
  unfold axisOperand
  generalize axisField w = n at hlt
  interval_cases n <;> cases a <;> decide

theorem rowPidReset_matches_iff (w : Word) : rowPidReset.matches w = true ↔ w &&& 0xFFFFFCFF = 0x00000002 := beq_iff_eq

theorem rowPidResetAll_matches_iff (w : Word) : rowPidResetAll.matches w = true ↔ w = 0x00000003 := by
  rw [OpRow.matches, beq_iff_eq]
  exact iff_of_eq (congrArg (· = 0x00000003) BitVec.and_allOnes)

/-! ## What a write to the banks leaves unchanged (10_state.md R25-R27) -/

/-- Replacing one bank keeps what it keeps of that bank's registers. -/
theorem keepsRegs_setBank {keep : Reg → Prop} {s : State} {a : Axis} {b : AxisBank}
    (hbank : ∀ x, keep (.axis a x) → b.read x = (s.bank a).read x) : KeepsRegs keep s (s.setBank a b) := by
  intro r hr
  cases r with
  | axis c x =>
    rw [read_axis, read_axis, setBank_bank]
    split_ifs with hc
    · subst hc
      exact hbank x hr
    · rfl
  | _ => rfl

/-- Replacing every bank keeps what it keeps of each bank's registers. -/
theorem keepsRegs_mapBanks {keep : Reg → Prop} {s : State} {f : Axis → AxisBank}
    (hbank : ∀ a x, keep (.axis a x) → (f a).read x = (s.bank a).read x) : KeepsRegs keep s (s.mapBanks f) := by
  intro r hr
  cases r with
  | axis a x =>
    rw [read_axis, read_axis, mapBanks_bank]
    exact hbank a x hr
  | _ => rfl

@[simp] theorem clearedBank_iterm (b : AxisBank) : (clearedBank b).iterm = 0 := rfl

theorem clearedBank_read_of_ne (b : AxisBank) {x : AxisReg} (hx : x ≠ .iterm) : (clearedBank b).read x = b.read x := by
  cases x with
  | iterm => exact absurd rfl hx
  | _ => rfl

/-! ## PID.RESET and PID.RESETALL (40_pid.md R102, R103) -/

theorem exec_pidReset (a : Axis) (s : State) : exec (.pidReset a) s = .next (s.setBank a (clearedBank (s.bank a))) := rfl

theorem exec_pidResetAll (s : State) : exec .pidResetAll s = .next (s.mapBanks fun a => clearedBank (s.bank a)) := rfl

theorem exec_tick_disabled {s : State} (hen : s.en = false) : exec .tick s = .next (tickDisabled s) := by
  simp [exec, execTick, hen]

/-- Settles O7: the command replaces one bank by its cleared copy, and its words are those of its row. -/
theorem pidResetClearsOneIntegrator : Obligations.PidResetClearsOneIntegrator := by
  refine ⟨fun a s => ⟨_, exec_pidReset a s, by simp, keepsRegs_setBank ?_, sameHidden_setBank s a _⟩, fun a w => ?_⟩
  · intro x hx
    exact clearedBank_read_of_ne _ fun heq => hx (congrArg (Reg.axis a) heq)
  · rw [decode_pidReset_iff, rowPidReset_matches_iff, axisOperand_eq_iff]

/-- Settles O8: the command and a disabled TICK put the same cleared copy in every bank. -/
theorem pidResetAllClearsAllIntegrators : Obligations.PidResetAllClearsAllIntegrators := by
  refine ⟨fun s => ⟨_, exec_pidResetAll s, by simp, keepsRegs_mapBanks ?_, sameHidden_mapBanks s _⟩, fun w => ?_,
    fun s hen => ⟨_, _, exec_tick_disabled hen, exec_pidResetAll s, by simp⟩⟩
  · intro a x hx
    exact clearedBank_read_of_ne _ fun heq => hx a (congrArg (Reg.axis a) heq)
  · rw [decode_pidResetAll_iff, rowPidResetAll_matches_iff]

/-! ## A command whose check fails (40_pid.md R100) -/

theorem dtBad_iff (s : State) : dtBad s = true ↔ (s.read .dt).toInt ≤ 0 := by
  simp [dtBad]

theorem limBad_iff (s : State) (used : List Axis) :
    limBad s used = true ↔ ∃ a ∈ used, (s.read (.axis a .ilim)).toInt < 0 := by
  simp [limBad]

theorem pidCheckPasses_eq_false_iff (s : State) (used : List Axis) :
    pidCheckPasses s used = false ↔ dtBad s = true ∨ limBad s used = true := by
  simp [pidCheckPasses, ← Bool.not_eq_true, imp_iff_not_or]

theorem exec_pidUpdate_dropped {a : Axis} {s : State} (hcheck : pidCheckPasses s [a] = false) :
    exec (.pidUpdate a) s = .next (pidCheckErrors (encode (.pidUpdate a)) [a] s) := by
  simp [exec, execPidUpdate, hcheck]

theorem exec_tick_dropped {s : State} (hen : s.en = true) (hcheck : pidCheckPasses s Axis.all = false) :
    exec .tick s = .next (pidCheckErrors (encode .tick) Axis.all s) := by
  simp [exec, execTick, hen, hcheck]

theorem pidCheckErrors_eq_dtErr {s : State} {used : List Axis} (hdt : dtBad s = true) (hlim : limBad s used = false) (w : Word) :
    pidCheckErrors w used s = raiseError .dtErr w s := by
  simp [pidCheckErrors, hdt, hlim]

theorem pidCheckErrors_eq_limErr {s : State} {used : List Axis} (hdt : dtBad s = false) (hlim : limBad s used = true) (w : Word) :
    pidCheckErrors w used s = raiseError .limErr w s := by
  simp [pidCheckErrors, hdt, hlim]

theorem pidCheckErrors_eq_both {s : State} {used : List Axis} (hdt : dtBad s = true) (hlim : limBad s used = true) (w : Word) :
    pidCheckErrors w used s = raiseError .limErr w (raiseError .dtErr w s) := by
  simp [pidCheckErrors, hdt, hlim]

/-- Both errors in the order of R100: STATUS collects the two bits, and the capture registers show the later, LIM_ERR. -/
theorem records_dtErr_then_limErr (w : Word) (s : State) :
    let t := raiseError .limErr w (raiseError .dtErr w s)
    (∀ n < 32, t.status.getLsbD n = (s.status.getLsbD n || n == 0 || n == 1)) ∧ t.errinfo = w ∧ t.errcause = 0x80000001 ∧
      KeepsRegs (fun r => ¬isRecord r) s t ∧ SameHidden s t := by
  obtain ⟨⟨hstatus, -, -⟩, hkeeps, hhidden⟩ := onlyRecords_raiseError .dtErr w s
  obtain ⟨⟨hstatus', hinfo', -⟩, hkeeps', hhidden'⟩ := onlyRecords_raiseError .limErr w (raiseError .dtErr w s)
  refine ⟨fun n hn => ?_, hinfo', rfl, hkeeps.trans hkeeps', hhidden.trans hhidden'⟩
  rw [hstatus' n hn, hstatus n hn]
  rfl

/-- Settles O10: both commands end in the error records of the check, which are one raised error or two in order. -/
theorem failedCheckWritesOnlyRecords : Obligations.FailedCheckWritesOnlyRecords := by
  intro s i used hcmd
  dsimp only
  rw [← dtBad_iff, ← limBad_iff, ← pidCheckPasses_eq_false_iff, Bool.not_eq_true, Bool.not_eq_true]
  intro hcheck
  have hexec : exec i s = .next (pidCheckErrors (encode i) used s) := by
    rcases hcmd with ⟨a, rfl, rfl⟩ | ⟨rfl, hen, rfl⟩
    · exact exec_pidUpdate_dropped hcheck
    · exact exec_tick_dropped hen hcheck
  refine ⟨_, hexec, fun hdt hlim => ?_, fun hlim hdt => ?_, fun hdt hlim => ?_⟩
  · rw [pidCheckErrors_eq_dtErr hdt hlim]
    exact onlyRecords_raiseError .dtErr (encode i) s
  · rw [pidCheckErrors_eq_limErr hdt hlim]
    exact onlyRecords_raiseError .limErr (encode i) s
  · rw [pidCheckErrors_eq_both hdt hlim]
    exact records_dtErr_then_limErr (encode i) s

end Sys2Proof.Machine
end

section
/-! PROOFS. The statements of 41_mixer.md: the command MIX (R111), and how far mixing is linear (R112). -/

namespace Sys2Proof.Machine

/-! ## The words of MIX (30_encoding.md R72, R74) -/

theorem decode_mix_iff (w : Word) (src : MixSource) :
    decode w = .ok (.mix src) ↔ rowMix.matches w = true ∧ srcOperand w = src := by
  cases h : rowMix.matches w with
  | true =>
    have hnop : rowNop.matches w = false := not_matches_of_matches (by decide) (by decide) (by decide) h
    have hupdate : rowPidUpdate.matches w = false := not_matches_of_matches (by decide) (by decide) (by decide) h
    have hreset : rowPidReset.matches w = false := not_matches_of_matches (by decide) (by decide) (by decide) h
    have hresetAll : rowPidResetAll.matches w = false := not_matches_of_matches (by decide) (by decide) (by decide) h
    simp [decode, hnop, hupdate, hreset, hresetAll, h]
  | false =>
    simp only [decode, h, Bool.false_eq_true, if_false]
    split_ifs <;> simp

theorem rowMix_matches_iff (w : Word) : rowMix.matches w = true ↔ w &&& 0xFFFFFBFF = 0x00000004 := beq_iff_eq

/-- The SRC bit is set exactly for the source MIXIN. -/
theorem srcOperand_eq_iff (w : Word) (src : MixSource) :
    srcOperand w = src ↔ (src = .mixin ↔ w.getLsbD 10 = true) := by
  rw [srcOperand, srcField]
  cases w.getLsbD 10 <;> cases src <;> decide

/-! ## The mixing function (41_mixer.md R110) -/

/-- The one rounding of a row is the floor of its exact product. -/
theorem rowRounded_eq_div (m : PerActuator (PerAxis Word)) (v : PerAxis Int) (i : Actuator) :
    rowRounded m v i = rowDot (m.get i) v / 2 ^ 16 := floorDiv_eq_div _ (by decide)

theorem rowDot_add (row : PerAxis Word) (u v : PerAxis Int) :
    rowDot row (PerAxis.gen fun a => u.get a + v.get a) = rowDot row u + rowDot row v := by
  simp only [rowDot, PerAxis.gen, PerAxis.get]
  ring

/-- Where the row's sat32 changes nothing, the mixer answers the rounded row product. -/
theorem mixvec_of_not_saturates {m : PerActuator (PerAxis Word)} {v : PerAxis Int} {i : Actuator}
    (h : saturates (rowRounded m v i) = false) : mixvec m v i = rowRounded m v i :=
  bne_eq_false_iff_eq.mp h

/-! ## MIX (41_mixer.md R111) -/

theorem exec_mix (src : MixSource) (s : State) :
    exec (.mix src) s = .next (raiseWhen (mixSaturates s.matrix (mixOperand src s)) .ovf (encode (.mix src))
      (s.setAct (mixvec s.matrix (mixOperand src s)))) := rfl

/-- The write of the four actuators leaves every other register of the map alone (10_state.md R30). -/
theorem keepsRegs_setAct (s : State) (f : Actuator → Int) : KeepsRegs (fun r => ∀ i, r ≠ .act i) s (s.setAct f) := by
  intro r hr
  cases r with
  | act i => exact absurd rfl (hr i)
  | _ => rfl

/-- OVF raised under a condition, after writes that left the records alone (60_exceptions.md R163). -/
theorem ovfExactlyWhen_raiseWhen {p : Bool} {P : Prop} (hp : p = true ↔ P) (w : Word) {s t : State}
    (hrecords : NotRecorded s t) : OvfExactlyWhen P w s (raiseWhen p .ovf w t) := by
  obtain ⟨hstatus, hinfo, hcause⟩ := hrecords
  cases p with
  | true =>
    obtain ⟨hbits, hrecorded⟩ := recorded_raiseError .ovf w t
    refine ⟨fun _ => ⟨?_, hrecorded⟩, fun hnot => absurd (hp.mp rfl) hnot⟩
    rwa [hstatus] at hbits
  | false => exact ⟨fun hP => absurd (hp.mpr hP) Bool.false_ne_true, fun _ => ⟨hstatus, hinfo, hcause⟩⟩

/-- Settles O12: the command writes the mixed vector and then raises OVF under the condition of the four rows. -/
theorem mixAppliesMatrix : Obligations.MixAppliesMatrix := by
  refine ⟨fun w src => ?_, fun src s => ?_⟩
  · rw [decode_mix_iff, rowMix_matches_iff, srcOperand_eq_iff]
  · intro v row
    have hrow : row = rowRounded s.matrix (mixOperand src s) := by cases src <;> rfl
    rw [hrow]
    refine ⟨_, exec_mix src s, fun i => ?_, ?_, ?_, ?_⟩
    · rw [read_act, raiseWhen_act, setAct_act, PerActuator.get_gen, mixvec, toInt_ofS32_sat32]
    · exact ovfExactlyWhen_raiseWhen (mixSaturates_iff _ _) _ ⟨rfl, rfl, rfl⟩
    · rintro r ⟨hrecord, hact⟩
      exact (read_raiseWhen _ _ _ _ r hrecord).trans (keepsRegs_setAct s _ r hact)
    · exact (sameHidden_setAct s _).trans (sameHidden_raiseWhen _ _ _ _)

/-! ## Linearity (41_mixer.md R112) -/

/-- The floor of a sum exceeds the sum of the floors by 0 or 1. -/
theorem add_ediv_sub_ediv_sub_ediv (x y : Int) :
    (x + y) / 2 ^ 16 - x / 2 ^ 16 - y / 2 ^ 16 = 0 ∨ (x + y) / 2 ^ 16 - x / 2 ^ 16 - y / 2 ^ 16 = 1 := by
  omega

/-- Settles O13: without saturation the mixer answers the floor of the exact row product, and that product is linear. -/
theorem mixingIsLinearUpToRounding : Obligations.MixingIsLinearUpToRounding := by
  refine ⟨fun m v i => ?_, fun m u v i hu hv huv => ?_⟩
  · intro sum hfits
    have hsum : sum = rowDot (m.get i) v := rfl
    rw [hsum, ← rowRounded_eq_div, ← saturates_iff, Bool.not_eq_true] at hfits
    rw [mixvec_of_not_saturates hfits, rowRounded_eq_div, hsum]
    exact ⟨Int.ediv_mul_le _ (by decide), Int.lt_ediv_add_one_mul_self _ (by decide)⟩
  · rw [mixvec_of_not_saturates hu, mixvec_of_not_saturates hv, mixvec_of_not_saturates huv]
    simp only [rowRounded_eq_div, rowDot_add]
    exact add_ediv_sub_ediv_sub_ediv _ _

end Sys2Proof.Machine
end

section
/-! PROOFS. The statements of 42_controller.md: NOP (R120), and TICK against the sequence of commands it stands for (R122). -/

namespace Sys2Proof.Machine

/-! ## NOP (42_controller.md R120) -/

theorem exec_nop (s : State) : exec .nop s = .next s := rfl

/-- A word that is not the all-zero word has a nonzero bit in some field. -/
theorem exists_nonzero_field {w : Word} (hop : opField w = 0) (hne : w ≠ 0) :
    reservedField w ≠ 0 ∨ srcField w = true ∨ axisField w ≠ 0 := by
  by_contra hzero
  obtain ⟨hres, hsrc, haxis⟩ : reservedField w = 0 ∧ srcField w = false ∧ axisField w = 0 := by simpa using hzero
  exact hne (word_eq_iff_fields.mpr ⟨hop, hres, hsrc, haxis⟩)

/-- Settles O6: beside OP = 0x00, a nonzero field is one that the row of NOP does not use, so the word is illegal by O2. -/
theorem nopChangesNothing : Obligations.NopChangesNothing := by
  refine ⟨exec_nop, by decide, fun w s hop hne => (illegalWordOnlyRaisesCmdErr w s).1 ?_⟩
  rcases exists_nonzero_field hop hne with hres | hsrc | haxis
  · exact .inr (.inl hres)
  · exact .inr (.inr (.inl ⟨hsrc, by omega⟩))
  · exact .inr (.inr (.inr ⟨haxis, by omega, by omega⟩))

/-! ## Error records one after the other (60_exceptions.md R162) -/

theorem NotRecorded.trans {s t u : State} (h : NotRecorded s t) (k : NotRecorded t u) : NotRecorded s u := by
  obtain ⟨hstatus, hinfo, hcause⟩ := h
  obtain ⟨kstatus, kinfo, kcause⟩ := k
  exact ⟨kstatus.trans hstatus, kinfo.trans hinfo, kcause.trans hcause⟩

theorem Recorded.trans_notRecorded {c : Cause} {w : Word} {s t u : State} (h : Recorded c w s t) (k : NotRecorded t u) :
    Recorded c w s u := by
  obtain ⟨kstatus, kinfo, kcause⟩ := k
  rwa [Recorded, kstatus, kinfo, kcause]

theorem NotRecorded.trans_recorded {c : Cause} {w : Word} {s t u : State} (h : NotRecorded s t) (k : Recorded c w t u) :
    Recorded c w s u := by
  obtain ⟨hstatus, -, -⟩ := h
  rwa [Recorded, hstatus] at k

/-- The capture registers keep the later of two records, and the STATUS bit is the same one. -/
theorem Recorded.trans {c : Cause} {w v : Word} {s t u : State} (h : Recorded c w s t) (k : Recorded c v t u) :
    Recorded c v s u := by
  obtain ⟨hstatus, -, -⟩ := h
  obtain ⟨kstatus, kcapture⟩ := k
  refine ⟨fun n hn => ?_, kcapture⟩
  rw [kstatus n hn, hstatus n hn, Bool.or_assoc, Bool.or_self]

theorem NotRecorded.status_errcause_eq {s t u : State} (h : NotRecorded s t) (k : NotRecorded s u) :
    u.status = t.status ∧ u.errcause = t.errcause := by
  obtain ⟨hstatus, -, hcause⟩ := h
  obtain ⟨kstatus, -, kcause⟩ := k
  exact ⟨kstatus.trans hstatus.symm, kcause.trans hcause.symm⟩

/-- Two records of one cause differ at most in ERRINFO. -/
theorem Recorded.status_errcause_eq {c : Cause} {w v : Word} {s t u : State} (h : Recorded c w s t) (k : Recorded c v s u) :
    u.status = t.status ∧ u.errcause = t.errcause := by
  obtain ⟨hstatus, -, hcause⟩ := h
  obtain ⟨kstatus, -, kcause⟩ := k
  exact ⟨BitVec.eq_of_getLsbD_eq fun n hn => (kstatus n hn).trans (hstatus n hn).symm,
    BitVec.eq_of_toNat_eq (kcause.trans hcause.symm)⟩

/-! ## Runs of commands that raise no error but OVF (42_controller.md R122) -/

theorem execSeq_cons {i : Instr} {is : List Instr} {s t : State} (h : exec i s = .next t) :
    execSeq (i :: is) s = execSeq is t := by
  rw [execSeq, h]

/-- The last OVF of a sequence is one of the later commands', or else the first command's. -/
theorem lastOvf_cons {i : Instr} {is : List Instr} {s t : State} (h : exec i s = .next t) :
    lastOvf (i :: is) s = (lastOvf is t).or (if raisesOvf i s then some i else none) := by
  rw [lastOvf, h]
  cases hlast : lastOvf is t <;> simp [hlast]

/-- The commands lead from one state to the other, and each of them records OVF exactly when it raises it. -/
inductive OvfRun : List Instr → State → State → Prop where
  | nil (s : State) : OvfRun [] s s
  | cons {i : Instr} {is : List Instr} {s t u : State} (hexec : exec i s = .next t)
      (hrecords : OvfExactlyWhen (raisesOvf i s = true) (encode i) s t) (rest : OvfRun is t u) : OvfRun (i :: is) s u

theorem OvfRun.execSeq_eq {is : List Instr} {s u : State} (h : OvfRun is s u) : execSeq is s = .next u := by
  induction h with
  | nil s => rfl
  | cons hexec _ _ ih => rw [execSeq_cons hexec, ih]

theorem OvfRun.notRecorded {is : List Instr} {s u : State} (h : OvfRun is s u) (hnone : lastOvf is s = none) :
    NotRecorded s u := by
  induction h with
  | nil s => exact ⟨rfl, rfl, rfl⟩
  | cons hexec hrecords _ ih =>
    rw [lastOvf_cons hexec, Option.or_eq_none_iff, ite_eq_right_iff] at hnone
    obtain ⟨hrest, hfirst⟩ := hnone
    exact (hrecords.2 fun hraises => nomatch hfirst hraises).trans (ih hrest)

/-- A run that raises OVF leaves the record of its last command that does. -/
theorem OvfRun.recorded {is : List Instr} {s u : State} {j : Instr} (h : OvfRun is s u) (hlast : lastOvf is s = some j) :
    Recorded .ovf (encode j) s u := by
  induction h with
  | nil s => cases hlast
  | @cons i is s t u hexec hrecords rest ih =>
    rw [lastOvf_cons hexec, Option.or_eq_some_iff] at hlast
    rcases hlast with hlater | ⟨hrest, hfirst⟩
    · by_cases hraises : raisesOvf i s = true
      · exact (hrecords.1 hraises).trans (ih hlater)
      · exact (hrecords.2 hraises).trans_recorded (ih hlater)
    · obtain ⟨hraises, heq⟩ := Option.ite_none_right_eq_some.mp hfirst
      obtain rfl := Option.some_inj.mp heq
      exact (hrecords.1 hraises).trans_notRecorded (rest.notRecorded hrest)

/-! ## States apart from their error records -/

/-- The state with STATUS, ERRINFO and ERRCAUSE cleared: two states with the same such state differ at most in these. -/
def clearRecords (s : State) : State := { s with status := 0, errinfo := 0, errcause := 0 }

@[simp] theorem clearRecords_raiseWhen (p : Bool) (c : Cause) (w : Word) (s : State) :
    clearRecords (raiseWhen p c w s) = clearRecords s := by
  cases p <;> rfl

@[simp] theorem clearRecords_setBank (s : State) (a : Axis) (b : AxisBank) :
    clearRecords (s.setBank a b) = (clearRecords s).setBank a b := rfl

@[simp] theorem clearRecords_mapBanks (s : State) (f : Axis → AxisBank) :
    clearRecords (s.mapBanks f) = (clearRecords s).mapBanks f := rfl

@[simp] theorem clearRecords_setAct (s : State) (f : Actuator → Int) :
    clearRecords (s.setAct f) = (clearRecords s).setAct f := rfl

theorem read_clearRecords (s : State) {r : Reg} (hr : ¬isRecord r) : (clearRecords s).read r = s.read r := by
  cases r with
  | status | errinfo | errcause => exact absurd trivial hr
  | _ => rfl

theorem sameHidden_clearRecords (s : State) : SameHidden (clearRecords s) s := ⟨rfl, rfl, rfl, rfl, rfl, rfl, rfl⟩

theorem sameHidden_of_clearRecords_eq {s t : State} (h : clearRecords t = clearRecords s) : SameHidden s t := by
  have hs : SameHidden s (clearRecords s) := ⟨rfl, rfl, rfl, rfl, rfl, rfl, rfl⟩
  exact hs.trans (h ▸ sameHidden_clearRecords t)

theorem keepsRegs_of_clearRecords_eq {s t : State} (h : clearRecords t = clearRecords s) :
    KeepsRegs (fun r => ¬isRecord r) s t := by
  intro r hr
  rw [← read_clearRecords t hr, h, read_clearRecords s hr]

/-- With the same STATUS and ERRCAUSE too, only ERRINFO is left to differ. -/
theorem keepsRegs_but_errinfo {s t : State} (h : clearRecords t = clearRecords s)
    (hrecords : t.status = s.status ∧ t.errcause = s.errcause) : KeepsRegs (fun r => r ≠ .errinfo) s t := by
  obtain ⟨hstatus, hcause⟩ := hrecords
  intro r hr
  cases r with
  | status => exact hstatus
  | errcause => exact hcause
  | errinfo => exact absurd rfl hr
  | _ => exact keepsRegs_of_clearRecords_eq h _ id

/-! ## PID.UPDATE whose check passes, and MIX (40_pid.md R101, 41_mixer.md R111) -/

/-- The state after a PID.UPDATE whose check passes. -/
def updateAxis (a : Axis) (s : State) : State :=
  raiseWhen (pidSaturates (s32 s.dt) (s.bank a)) .ovf (encode (.pidUpdate a))
    (s.setBank a (updatedBank s.dupd (s32 s.dt) (s.bank a)))

/-- The state after MIX. -/
def mixActuators (src : MixSource) (s : State) : State :=
  raiseWhen (mixSaturates s.matrix (mixOperand src s)) .ovf (encode (.mix src)) (s.setAct (mixvec s.matrix (mixOperand src s)))

theorem exec_pidUpdate_of_check {a : Axis} {s : State} (hcheck : pidCheckPasses s [a] = true) :
    exec (.pidUpdate a) s = .next (updateAxis a s) := by
  simp only [exec, execPidUpdate, hcheck, if_true, updateAxis]

@[simp] theorem updateAxis_dt (a : Axis) (s : State) : (updateAxis a s).dt = s.dt := by simp [updateAxis]

@[simp] theorem updateAxis_matrix (a : Axis) (s : State) : (updateAxis a s).matrix = s.matrix := by simp [updateAxis]

@[simp] theorem updateAxis_dupd (a : Axis) (s : State) : (updateAxis a s).dupd = s.dupd := by
  simp [updateAxis, State.dupd]

@[simp] theorem updateAxis_bank (a b : Axis) (s : State) :
    (updateAxis a s).bank b = if b = a then updatedBank s.dupd (s32 s.dt) (s.bank a) else s.bank b := by
  simp [updateAxis, setBank_bank]

/-- An update writes neither DT nor an ILIM, so it changes no later check (40_pid.md R100). -/
@[simp] theorem pidCheckPasses_updateAxis (a : Axis) (s : State) (used : List Axis) :
    pidCheckPasses (updateAxis a s) used = pidCheckPasses s used := by
  have hilim (b : Axis) : ((updateAxis a s).bank b).ilim = (s.bank b).ilim := by
    rw [updateAxis_bank]
    split_ifs with hb
    · rw [hb]; rfl
    · rfl
  simp only [pidCheckPasses, dtBad, limBad, updateAxis_dt, hilim]

@[simp] theorem clearRecords_updateAxis (a : Axis) (s : State) :
    clearRecords (updateAxis a s) = (clearRecords s).setBank a (updatedBank s.dupd (s32 s.dt) (s.bank a)) := by
  simp [updateAxis]

theorem OvfRun.cons_pidUpdate {a : Axis} {is : List Instr} {s u : State} (hcheck : pidCheckPasses s [a] = true)
    (rest : OvfRun is (updateAxis a s) u) : OvfRun (.pidUpdate a :: is) s u :=
  .cons (exec_pidUpdate_of_check hcheck)
    (ovfExactlyWhen_raiseWhen (by rw [raisesOvf_pidUpdate a s hcheck]) _ ⟨rfl, rfl, rfl⟩) rest

theorem OvfRun.single_mix (src : MixSource) (s : State) : OvfRun [.mix src] s (mixActuators src s) :=
  .cons (exec_mix src s) (ovfExactlyWhen_raiseWhen (by rw [raisesOvf_mix]) _ ⟨rfl, rfl, rfl⟩) (.nil _)

theorem isSome_lastOvf_pidUpdate {a : Axis} {s : State} (hcheck : pidCheckPasses s [a] = true) (is : List Instr) :
    (lastOvf (.pidUpdate a :: is) s).isSome =
      ((lastOvf is (updateAxis a s)).isSome || pidSaturates (s32 s.dt) (s.bank a)) := by
  rw [lastOvf_cons (exec_pidUpdate_of_check hcheck), raisesOvf_pidUpdate a s hcheck]
  cases pidSaturates (s32 s.dt) (s.bank a) <;> simp

theorem isSome_lastOvf_mix (src : MixSource) (s : State) :
    (lastOvf [.mix src] s).isSome = mixSaturates s.matrix (mixOperand src s) := by
  rw [lastOvf_cons (exec_mix src s), raisesOvf_mix]
  cases mixSaturates s.matrix (mixOperand src s) <;> simp [lastOvf]

/-! ## The sequence that TICK stands for (42_controller.md R122) -/

/-- The sequence of R122: the four PID.UPDATE, then MIX pid. -/
def tickCommands : List Instr :=
  [.pidUpdate .roll, .pidUpdate .pitch, .pidUpdate .yawRate, .pidUpdate .altitude, .mix .pidout]

/-- The state after the four updates of R122. -/
def updateAllAxes (s : State) : State :=
  updateAxis .altitude (updateAxis .yawRate (updateAxis .pitch (updateAxis .roll s)))

/-- The axes are independent (R121): each update finds its bank as it was before the first. -/
theorem updateAllAxes_bank (s : State) (a : Axis) :
    (updateAllAxes s).bank a = updatedBank s.dupd (s32 s.dt) (s.bank a) := by
  cases a <;> simp [updateAllAxes]

theorem updateAllAxes_matrix (s : State) : (updateAllAxes s).matrix = s.matrix := by
  simp [updateAllAxes]

/-- Replacing the four banks in turn replaces them all. -/
theorem setBank_each_eq_mapBanks (s : State) (f : Axis → AxisBank) :
    (((s.setBank .roll (f .roll)).setBank .pitch (f .pitch)).setBank .yawRate (f .yawRate)).setBank .altitude (f .altitude) =
      s.mapBanks f := rfl

theorem clearRecords_updateAllAxes (s : State) :
    clearRecords (updateAllAxes s) = (clearRecords s).mapBanks fun a => updatedBank s.dupd (s32 s.dt) (s.bank a) := by
  rw [← setBank_each_eq_mapBanks]
  simp [updateAllAxes]

/-- MIX pid after the updates reads the outputs that TICK mixes: PIDOUT holds each saturated command unchanged. -/
theorem mixOperand_updateAllAxes (s : State) : mixOperand .pidout (updateAllAxes s) = tickOutputs s := by
  refine PerAxis.ext_get fun a => ?_
  simp only [mixOperand, tickOutputs, PerAxis.get_gen, updateAllAxes_bank]
  exact toInt_ofS32_sat32 (commandSum (s32 s.dt) (s.bank a))

/-- The sequence does the writes of TICK. -/
theorem clearRecords_tickCommands (w : Word) (s : State) :
    clearRecords (mixActuators .pidout (updateAllAxes s)) = clearRecords (tickUpdate w s) := by
  rw [mixActuators, tickUpdate, clearRecords_raiseWhen, clearRecords_raiseWhen, clearRecords_setAct, clearRecords_setAct,
    clearRecords_updateAllAxes, clearRecords_mapBanks, mixOperand_updateAllAxes, updateAllAxes_matrix]

theorem ovfRun_tickCommands {s : State} (hcheck : ∀ a, pidCheckPasses s [a] = true) :
    OvfRun tickCommands s (mixActuators .pidout (updateAllAxes s)) := by
  have run : OvfRun [.mix .pidout] (updateAllAxes s) _ := .single_mix .pidout _
  refine .cons_pidUpdate (hcheck _) (.cons_pidUpdate ?_ (.cons_pidUpdate ?_ (.cons_pidUpdate ?_ run))) <;> simp [hcheck]

/-- A command of the sequence raises OVF exactly if TICK does. -/
theorem isSome_lastOvf_tickCommands {s : State} (hcheck : ∀ a, pidCheckPasses s [a] = true) :
    (lastOvf tickCommands s).isSome = tickSaturates s := by
  have hmix : (lastOvf [.mix .pidout] (updateAllAxes s)).isSome = mixSaturates s.matrix (tickOutputs s) := by
    rw [isSome_lastOvf_mix, mixOperand_updateAllAxes, updateAllAxes_matrix]
  rw [updateAllAxes] at hmix
  simp only [tickCommands, isSome_lastOvf_pidUpdate, pidCheckPasses_updateAxis, hcheck, hmix, updateAxis_dt, updateAxis_bank,
    reduceCtorEq, if_false, tickSaturates, Axis.all, List.any_cons, List.any_nil, Bool.or_false]
  ac_rfl

/-! ## TICK (42_controller.md R121, R122) -/

theorem exec_tick_enabled {s : State} (hen : s.en = true) (hcheck : pidCheckPasses s Axis.all = true) :
    exec .tick s = .next (tickUpdate (encode .tick) s) := by
  simp only [exec, execTick, hen, hcheck, if_true]

theorem ovfExactlyWhen_tickUpdate (w : Word) (s : State) :
    OvfExactlyWhen (tickSaturates s = true) w s (tickUpdate w s) :=
  ovfExactlyWhen_raiseWhen Iff.rfl w ⟨rfl, rfl, rfl⟩

/-- Settles O16: the sequence and TICK do the same writes, and TICK raises OVF exactly when a command of the sequence does. -/
theorem tickEqualsUpdatesThenMix : Obligations.TickEqualsUpdatesThenMix := by
  refine ⟨fun s hen hdt hilim => ?_, fun s hen => ⟨_, _, exec_tick_disabled hen, exec_pidResetAll s, by simp, ?_⟩⟩
  · have hall : pidCheckPasses s Axis.all = true := (pidCheckPasses_all s).mpr ⟨hdt, hilim⟩
    have hcheck (a : Axis) : pidCheckPasses s [a] = true := (pidCheckPasses_one s a).mpr ⟨hdt, hilim a⟩
    have run := ovfRun_tickCommands hcheck
    have hwrites := (clearRecords_tickCommands (encode .tick) s).symm
    have hhidden := sameHidden_of_clearRecords_eq hwrites
    obtain ⟨hovf, hquiet⟩ := ovfExactlyWhen_tickUpdate (encode .tick) s
    rw [← isSome_lastOvf_tickCommands hcheck] at hovf hquiet
    intro commands
    have hcommands : commands = tickCommands := rfl
    rw [hcommands]
    refine ⟨_, _, exec_tick_enabled hen hall, run.execSeq_eq, ?_⟩
    cases hlast : lastOvf tickCommands s with
    | none =>
      have hseq := run.notRecorded hlast
      have htick := hquiet (by simp [hlast])
      exact ⟨keepsRegs_but_errinfo hwrites (hseq.status_errcause_eq htick), hhidden, hseq, htick⟩
    | some i =>
      have hseq := run.recorded hlast
      have htick := hovf (by simp [hlast])
      exact ⟨keepsRegs_but_errinfo hwrites (hseq.status_errcause_eq htick), hhidden, hseq, htick⟩
  · intro i
    rw [read_act, tickDisabled_act, PerActuator.get_gen]
    rfl

end Sys2Proof.Machine
end

section
/-! PROOFS. The statements of 43_decoder.md: the three ends of a frame (R132, R133, R135, R136), normalisation (R138), and that
the receiver never stops (R143). -/

namespace Sys2Proof.Machine

/-! ## Normalisation (43_decoder.md R138) -/

theorem normalise_eq_tdiv (c : Chan) : normalise c = (((c.toNat : Int) - 1500) * 2 ^ 16).tdiv 500 := rfl

/-- Rounded toward zero, the magnitude of the quotient is the quotient of the magnitudes. -/
theorem abs_normalise (c : Chan) : |normalise c| = ((((c.toNat : Int) - 1500) * 2 ^ 16).natAbs / 500 : Nat) := by
  rw [normalise_eq_tdiv, Int.abs_eq_natAbs, Int.natAbs_tdiv]
  rfl

theorem abs_normalise_lt (c : Chan) : |normalise c| < 2 ^ 31 := by
  have hc := c.isLt
  rw [abs_normalise]
  omega

/-- Settles O25: the quotient by definition, the bound above, and the listed values by evaluation. -/
theorem normIsTruncatedQuotient : Obligations.NormIsTruncatedQuotient :=
  ⟨fun c => ⟨normalise_eq_tdiv c, abs_normalise_lt c⟩, by decide, by decide, by decide, by decide, by decide⟩

/-! ## The end of a frame (43_decoder.md R131, R132)

The 32nd byte completes the buffer, and then the first branch that applies decides. -/

theorem storeByte_hdrEn (b : Byte) (s : State) : (storeByte b s).hdrEn = s.hdrEn := rfl
theorem storeByte_be (b : Byte) (s : State) : (storeByte b s).be = s.be := rfl
theorem storeByte_h0 (b : Byte) (s : State) : (storeByte b s).h0 = s.h0 := rfl
theorem storeByte_h1 (b : Byte) (s : State) : (storeByte b s).h1 = s.h1 := rfl

theorem storeByte_buf_last {s : State} (h : lastByteDue s) (b : Byte) : (storeByte b s).buf = s.frameWith b := by
  obtain ⟨-, hcnt⟩ := h
  simp [State.frameWith, hcnt]

theorem storeByte_cnt_last {s : State} (h : lastByteDue s) (b : Byte) : (storeByte b s).cnt = 0 := by
  obtain ⟨-, hcnt⟩ := h
  rw [storeByte_cnt, hcnt]
  rfl

theorem rxByte_last {s : State} (h : lastByteDue s) (b : Byte) : rxByte b s = frameEnd b (storeByte b s) := by
  obtain ⟨hmode, hcnt⟩ := h
  simp only [rxByte, hmode, hcnt, if_true]

/-- The header passes if none is defined or bytes 0 and 1 are H0 and H1. -/
theorem headerBad_last_eq_false_iff {s : State} (h : lastByteDue s) (b : Byte) :
    headerBad (storeByte b s) = false ↔
      (s.hdrEn = true → (s.frameWith b)[0] = s.h0 ∧ (s.frameWith b)[1] = s.h1) := by
  rw [headerBad, storeByte_buf_last h, storeByte_hdrEn, storeByte_h0, storeByte_h1]
  simp

theorem rxByte_headerMismatch {s : State} {b : Byte} (h : lastByteDue s)
    (hheader : ¬(s.hdrEn = true → (s.frameWith b)[0] = s.h0 ∧ (s.frameWith b)[1] = s.h1)) :
    rxByte b s = headerMismatch (storeByte b s) := by
  rw [← headerBad_last_eq_false_iff h, Bool.not_eq_false] at hheader
  rw [rxByte_last h, frameEnd, if_pos hheader]

theorem rxByte_checksumFail {s : State} {b : Byte} (h : lastByteDue s)
    (hheader : s.hdrEn = true → (s.frameWith b)[0] = s.h0 ∧ (s.frameWith b)[1] = s.h1)
    (hsum : checksumOk s.be (s.frameWith b) = false) : rxByte b s = checksumFail (storeByte b s) := by
  rw [← headerBad_last_eq_false_iff h] at hheader
  rw [rxByte_last h, frameEnd, hheader, storeByte_buf_last h, storeByte_be, hsum]
  simp

theorem rxByte_publish {s : State} {b : Byte} (h : lastByteDue s)
    (hheader : s.hdrEn = true → (s.frameWith b)[0] = s.h0 ∧ (s.frameWith b)[1] = s.h1)
    (hsum : checksumOk s.be (s.frameWith b) = true) : rxByte b s = publish b (storeByte b s) := by
  rw [← headerBad_last_eq_false_iff h] at hheader
  rw [rxByte_last h, frameEnd, hheader, storeByte_buf_last h, storeByte_be, hsum]
  simp

/-! ## What the receiver's operations leave unchanged -/

theorem KeepsRegs.mono {keep keep' : Reg → Prop} {s t : State} (h : KeepsRegs keep s t) (hkeep : ∀ r, keep' r → keep r) :
    KeepsRegs keep' s t := fun r hr => h r (hkeep r hr)

/-- The buffer and its count show in DEC_STATE alone (10_state.md R36). -/
theorem keepsRegs_storeByte (b : Byte) (s : State) : KeepsRegs (fun r => r ≠ .decState) s (storeByte b s) := by
  intro r hr
  cases r with
  | decState => exact absurd rfl hr
  | _ => rfl

theorem keepsRegs_headerMismatch (s : State) :
    KeepsRegs (fun r => r ≠ .decState ∧ r ≠ .resyncs ∧ r ≠ .status) s (headerMismatch s) := by
  rintro r ⟨hdec, hcount, hstatus⟩
  cases r with
  | decState => exact absurd rfl hdec
  | resyncs => exact absurd rfl hcount
  | status => exact absurd rfl hstatus
  | _ => rfl

theorem keepsRegs_checksumFail (s : State) :
    KeepsRegs (fun r => r ≠ .csumErrs ∧ r ≠ .status) s (checksumFail s) := by
  rintro r ⟨hcount, hstatus⟩
  cases r with
  | csumErrs => exact absurd rfl hcount
  | status => exact absurd rfl hstatus
  | _ => rfl

theorem publishedBank_read_of_ne (s : State) (chs : Vector Chan 14) (a : Axis) {x : AxisReg} (hx : x ≠ .sp) :
    (publishedBank s chs a).read x = (s.bank a).read x := by
  cases x with
  | sp => exact absurd rfl hx
  | _ => rfl

theorem keepsRegs_publishWrites (chs : Vector Chan 14) (s : State) :
    KeepsRegs (fun r => r ≠ .inputs ∧ r ≠ .framesOk ∧ (∀ k, r ≠ .ch k) ∧ ∀ a, r ≠ .axis a .sp) s (publishWrites chs s) := by
  rintro r ⟨hinputs, hframes, hch, hsp⟩
  cases r with
  | inputs => exact absurd rfl hinputs
  | framesOk => exact absurd rfl hframes
  | ch k => exact absurd rfl (hch k)
  | axis a x =>
    rw [read_axis, read_axis, publishWrites_bank]
    exact publishedBank_read_of_ne s chs a fun heq => hsp a (congrArg (Reg.axis a) heq)
  | _ => rfl

/-- A publication is its register writes and then STATUS.FRAME and a possible OVF, which are records. -/
theorem keepsRegs_publish (b : Byte) (s : State) :
    KeepsRegs (fun r => ¬isRecord r ∧ r ≠ .inputs ∧ r ≠ .framesOk ∧ (∀ k, r ≠ .ch k) ∧ ∀ a, r ≠ .axis a .sp) s
      (publish b s) := by
  rintro r ⟨hrecord, hwritten⟩
  have hstatus : r ≠ .status := fun heq => hrecord (heq ▸ trivial)
  calc (publish b s).read r = (signalEvent .frame (publishWrites (channelWords s.be s.buf) s)).read r :=
        read_raiseWhen _ _ _ _ r hrecord
    _ = (publishWrites (channelWords s.be s.buf) s).read r := read_signalEvent _ _ r hstatus
    _ = s.read r := keepsRegs_publishWrites _ s r hwritten

/-! ## Counters and STATUS bits (10_state.md R35, 60_exceptions.md R161) -/

theorem toNat_countUp (n : Word) : (countUp n).toNat = (n.toNat + 1) % 2 ^ 32 := BitVec.toNat_add n 1

theorem getLsbD_or_bitWord (w : Word) (k : Nat) {n : Nat} (hn : n < 32) :
    (w ||| bitWord k).getLsbD n = (w.getLsbD n || n == k) := by
  rw [BitVec.getLsbD_or, getLsbD_bitWord k hn]

/-- An OVF record touches one STATUS bit. -/
theorem OvfExactlyWhen.getLsbD_status_of_ne {p : Prop} {w : Word} {s t : State} (h : OvfExactlyWhen p w s t) {n : Nat}
    (hn : n < 32) (hne : n ≠ 2) : t.status.getLsbD n = s.status.getLsbD n := by
  obtain ⟨hraised, hquiet⟩ := h
  by_cases hp : p
  · obtain ⟨hstatus, -, -⟩ := hraised hp
    simp [hstatus n hn, Cause.code, hne]
  · obtain ⟨hstatus, -, -⟩ := hquiet hp
    rw [hstatus]

theorem OvfExactlyWhen.getLsbD_status_ovf_iff {p : Prop} {w : Word} {s t : State} (h : OvfExactlyWhen p w s t) :
    t.status.getLsbD 2 = true ↔ s.status.getLsbD 2 = true ∨ p := by
  obtain ⟨hraised, hquiet⟩ := h
  by_cases hp : p
  · obtain ⟨hstatus, -, -⟩ := hraised hp
    simp [hstatus 2 (by decide), Cause.code, hp]
  · obtain ⟨hstatus, -, -⟩ := hquiet hp
    simp [hstatus, hp]

/-! ## A header mismatch and a checksum failure (43_decoder.md R133, R135) -/

/-- Settles O28: the event is the header mismatch of the completed frame. -/
theorem headerMismatchEntersScan : Obligations.HeaderMismatchEntersScan := by
  intro b s hlast hhdrEn hbytes
  have hheader : ¬(s.hdrEn = true → (s.frameWith b)[0] = s.h0 ∧ (s.frameWith b)[1] = s.h1) :=
    fun hpass => not_and_or.mpr hbytes (hpass hhdrEn)
  rw [rxByte_headerMismatch hlast hheader]
  refine ⟨rfl, storeByte_cnt_last hlast b, toNat_countUp s.resyncs, fun n hn => getLsbD_or_bitWord s.status 8 hn, ?_,
    rfl, rfl, rfl, fun a => rfl⟩
  exact ((keepsRegs_storeByte b s).mono fun _ ⟨hdec, _⟩ => hdec).trans (keepsRegs_headerMismatch _)

/-- Settles O29: the event is the checksum failure of the completed frame. -/
theorem checksumFailureDropsFrame : Obligations.ChecksumFailureDropsFrame := by
  intro b s hlast hheader hsum
  rw [rxByte_checksumFail hlast hheader hsum]
  refine ⟨hlast.1, storeByte_cnt_last hlast b, toNat_countUp s.csumErrs, fun n hn => getLsbD_or_bitWord s.status 7 hn, ?_,
    rfl, rfl, rfl, fun a => rfl⟩
  refine ((keepsRegs_storeByte b s).mono fun _ ⟨hdec, _⟩ => hdec).trans ?_
  exact (keepsRegs_checksumFail _).mono fun _ ⟨_, hwritten⟩ => hwritten

/-! ## Publication (43_decoder.md R136) -/

/-- The word that CHMAP shows is one that a write to it would accept, as the very contents it has. -/
theorem chmapOfWord_read_chmap (s : State) : ChMap.ofWord (s.read .chmap) = some s.chmap :=
  chmapOfWord_eq_some_iff.mpr ⟨chmapNumber_chmapPlace s .roll, chmapNumber_chmapPlace s .pitch,
    chmapNumber_chmapPlace s .yawRate, chmapNumber_chmapPlace s .altitude, chmapNumber_enchPlace s⟩

theorem chmapNumber_le (s : State) : ∀ lo ∈ [0, 4, 8, 12, 16], s.chmapNumber lo ≤ 13 :=
  (exists_chmapOfWord_iff _).mp ⟨s.chmap, chmapOfWord_read_chmap s⟩

theorem ovfExactlyWhen_publish (b : Byte) (s : State) :
    OvfExactlyWhen (∃ a, OutOfRange (scaledSetpoint s (channelWords s.be s.buf) a)) (b.setWidth 32)
      (signalEvent .frame (publishWrites (channelWords s.be s.buf) s)) (publish b s) :=
  ovfExactlyWhen_raiseWhen (publishSaturates_iff s _) _ ⟨rfl, rfl, rfl⟩

/-- Beside OVF, a publication sets FRAME and keeps every other STATUS bit. -/
theorem getLsbD_status_publish_of_ne (b : Byte) (s : State) {n : Nat} (hn : n < 32) (hne : n ≠ 2) :
    (publish b s).status.getLsbD n = (s.status.getLsbD n || n == 6) := by
  rw [(ovfExactlyWhen_publish b s).getLsbD_status_of_ne hn hne, signalEvent_status, publishWrites_status,
    getLsbD_or_bitWord _ _ hn, DecEvent.code]

theorem getLsbD_status_publish_ovf_iff (b : Byte) (s : State) :
    (publish b s).status.getLsbD 2 = true ↔
      s.status.getLsbD 2 = true ∨ ∃ a, OutOfRange (scaledSetpoint s (channelWords s.be s.buf) a) := by
  have hframe : (signalEvent .frame (publishWrites (channelWords s.be s.buf) s)).status.getLsbD 2 = s.status.getLsbD 2 := by
    rw [signalEvent_status, getLsbD_or_bitWord _ _ (by decide)]
    exact Bool.or_false _
  rw [(ovfExactlyWhen_publish b s).getLsbD_status_ovf_iff, hframe]

theorem errinfo_errcause_publish_of_ovf {b : Byte} {s : State}
    (hout : ∃ a, OutOfRange (scaledSetpoint s (channelWords s.be s.buf) a)) :
    (publish b s).errinfo = b.setWidth 32 ∧ (publish b s).errcause = 0x80000002 := by
  obtain ⟨-, hinfo, hcause⟩ := (ovfExactlyWhen_publish b s).1 hout
  refine ⟨hinfo, BitVec.eq_of_toNat_eq ?_⟩
  rw [hcause]
  decide

theorem errinfo_errcause_publish_of_fits {b : Byte} {s : State}
    (hfits : ¬∃ a, OutOfRange (scaledSetpoint s (channelWords s.be s.buf) a)) :
    (publish b s).errinfo = s.errinfo ∧ (publish b s).errcause = s.errcause := by
  obtain ⟨-, hinfo, hcause⟩ := (ovfExactlyWhen_publish b s).2 hfits
  rw [hinfo, hcause, signalEvent_errinfo, signalEvent_errcause, publishWrites_errinfo, publishWrites_errcause]
  exact ⟨rfl, rfl⟩

theorem inputsWord_enables (c : Chan) : inputsWord (enables c) = if 39321 < normalise c then 1 else 0 :=
  if_congr decide_eq_true_iff rfl rfl

/-- R140 and R141: the setpoint in the terms of the registers. -/
theorem scaledSetpoint_eq (s : State) (chs : Vector Chan 14) (a : Axis) :
    scaledSetpoint s chs a = fxmul (normalise chs[s.designated (chmapPlace a)]) (s.read (.axis a .sens)).toInt := by
  simp only [designated_chmapPlace]
  rfl

/-- Settles O30: the event is the publication of the completed frame, register by register and record by record. -/
theorem validFrameIsPublished : Obligations.ValidFrameIsPublished := by
  intro b s hlast hheader hsum t ch raw
  have hpublish : t = publish b (storeByte b s) := rxByte_publish hlast hheader hsum
  have hch : channelWords (storeByte b s).be (storeByte b s).buf = ch := by
    rw [storeByte_buf_last hlast, storeByte_be]
  have hraw (a : Axis) : scaledSetpoint (storeByte b s) ch a = raw a := scaledSetpoint_eq s ch a
  have hdue : (∃ a, OutOfRange (scaledSetpoint (storeByte b s) (channelWords (storeByte b s).be (storeByte b s).buf) a)) ↔
      ∃ a, OutOfRange (raw a) := by
    rw [hch]
    exact exists_congr fun a => by rw [hraw]
  rw [hpublish]
  refine ⟨chmapNumber_le s, fun k => ?_, fun a => ?_, ?_, ?_, fun n hn hne => ?_, ?_, fun hout => ?_,
    fun hfits => ?_, ?_, ?_, ?_⟩
  · rw [read_ch, publish_ch, hch]
  · rw [read_axis, publish_bank, hch, ← hraw]
    exact toInt_ofS32_sat32 _
  · simp only [read_inputs, publish_inputs, hch, inputsWord_enables, designated_enchPlace, storeByte_chmap]
  · rw [read_framesOk, publish_framesOk, toNat_countUp, storeByte_framesOk, read_framesOk]
  · rw [getLsbD_status_publish_of_ne b _ hn hne, storeByte_status]
  · rw [getLsbD_status_publish_ovf_iff, hdue, storeByte_status]
  · obtain ⟨hinfo, hcause⟩ := errinfo_errcause_publish_of_ovf (hdue.mpr hout)
    rw [hinfo]
    exact ⟨BitVec.toNat_setWidth_of_le (by decide), hcause⟩
  · obtain ⟨hinfo, hcause⟩ := errinfo_errcause_publish_of_fits (b := b) (hdue.not.mpr hfits)
    rw [hinfo, hcause, storeByte_errinfo, storeByte_errcause]
    exact ⟨rfl, rfl⟩
  · refine ((keepsRegs_storeByte b s).mono fun _ ⟨_, hdec, _⟩ => hdec).trans ?_
    exact (keepsRegs_publish b _).mono fun _ ⟨hrecord, _, hwritten⟩ => ⟨hrecord, hwritten⟩
  · rw [publish_mode]
    exact hlast.1
  · rw [publish_cnt]
    exact storeByte_cnt_last hlast b

/-! ## The receiver never stops (43_decoder.md R143) -/

/-- A decoder event's STATUS bit is none of the error bits, and a publication raises OVF alone. -/
theorem Received.getLsbD_status_eq {b : Byte} {s t : State} (h : Received b s t) {n : Nat} (hn : n < 6) (hne : n ≠ 2) :
    t.status.getLsbD n = s.status.getLsbD n := by
  have hn32 : n < 32 := by omega
  have noEventBit {k : Nat} (hk : 6 ≤ k) : (s.status.getLsbD n || n == k) = s.status.getLsbD n := by
    rw [beq_eq_false_iff_ne.mpr (by omega), Bool.or_false]
  cases h with
  | mismatch => rw [headerMismatch_status, storeByte_status, getLsbD_or_bitWord _ _ hn32, noEventBit (by decide)]
  | badChecksum => rw [checksumFail_status, storeByte_status, getLsbD_or_bitWord _ _ hn32, noEventBit (by decide)]
  | published => rw [getLsbD_status_publish_of_ne _ _ hn32 hne, storeByte_status, noEventBit (by decide)]
  | _ => rfl

/-- What the inputs present next, and whether a Reset has happened, are outside the receiver. -/
theorem Received.arrivals_seenReset {b : Byte} {s t : State} (h : Received b s t) :
    t.arrivals = s.arrivals ∧ t.seenReset = s.seenReset := by
  cases h with
  | published => simp
  | _ => exact ⟨rfl, rfl⟩

theorem step_rxByte {b : Byte} {s : State} {rest : List Arrival} (hseen : s.seenReset = true)
    (harrivals : s.arrivals = .one (.rxByte b) :: rest) :
    ∃ t, step s = .next t ∧ Received b (clearResponse { s with arrivals := rest }) t := by
  refine ⟨_, ?_, rxByte_received b _⟩
  rw [step_cons harrivals]
  exact if_pos hseen

/-- A run over the bytes that are left, one byte a step. -/
theorem runSteps_bytes (bytes : List Byte) (s : State) (hseen : s.seenReset = true)
    (harrivals : s.arrivals = (bytes.map Event.rxByte).map .one) :
    ∃ t, runSteps bytes.length s = .next t ∧ t.arrivals = [] ∧
      ∀ n < 6, n ≠ 2 → t.status.getLsbD n = s.status.getLsbD n := by
  induction bytes generalizing s with
  | nil => exact ⟨s, rfl, harrivals, fun n _ _ => rfl⟩
  | cons b bytes ih =>
    obtain ⟨u, hstep, hu⟩ := step_rxByte hseen harrivals
    obtain ⟨hleft, hseen'⟩ := hu.arrivals_seenReset
    obtain ⟨t, hrun, hdone, hbits⟩ := ih u (hseen'.trans hseen) hleft
    refine ⟨t, (runSteps_succ _ hstep).trans hrun, hdone, fun n hn hne => ?_⟩
    exact (hbits n hn hne).trans (hu.getLsbD_status_eq hn hne)

/-- Settles O32: one byte by its cases, a sequence by induction on its length. -/
theorem receiverNeverStops : Obligations.ReceiverNeverStops :=
  ⟨fun b s _ hn hne => (rxByte_received b s).getLsbD_status_eq hn hne,
    fun bytes s hseen => runSteps_bytes bytes (s.receiving bytes) hseen rfl⟩

end Sys2Proof.Machine
end

section
/-! PROOFS. The statements of 60_exceptions.md: what a raised error and a decoder event write (R162), and the irq level (R165). -/

namespace Sys2Proof.Machine

/-! ## Raising (60_exceptions.md R162) -/

theorem getLsbD_signalEvent_status (e : DecEvent) (s : State) {n : Nat} (hn : n < 32) :
    (signalEvent e s).status.getLsbD n = (s.status.getLsbD n || n == e.code) := by
  rw [signalEvent_status, getLsbD_or_bitWord _ _ hn]

theorem sameHidden_signalEvent (e : DecEvent) (s : State) : SameHidden s (signalEvent e s) :=
  ⟨rfl, rfl, rfl, rfl, rfl, rfl, rfl⟩

/-- Settles O46: an error by the law of a raised error, an event by its one STATUS bit and its frame. -/
theorem raiseWritesThreeRecords : Obligations.RaiseWritesThreeRecords :=
  ⟨onlyRecords_raiseError, fun e s =>
    ⟨fun _ hn => getLsbD_signalEvent_status e s hn, read_signalEvent s e, sameHidden_signalEvent e s⟩⟩

/-! ## The bits of the irq level (60_exceptions.md R165) -/

theorem getLsbD_statusMask (n : Nat) : statusMask.getLsbD n = decide (n ≤ 8) := by
  have hmask : statusMask = BitVec.ofNat 32 (2 ^ 9 - 1) := rfl
  rw [hmask, BitVec.getLsbD_ofNat, Nat.testBit_two_pow_sub_one, ← Bool.decide_and, decide_eq_decide]
  omega

theorem getLsbD_and_statusMask (w : Word) (n : Nat) : (w &&& statusMask).getLsbD n = (w.getLsbD n && decide (n ≤ 8)) := by
  rw [BitVec.getLsbD_and, getLsbD_statusMask]

theorem ne_zero_iff_exists_getLsbD (w : Word) : w ≠ 0 ↔ ∃ n, w.getLsbD n = true := by
  constructor
  · intro hne
    by_contra hnone
    rw [not_exists] at hnone
    exact hne (BitVec.eq_of_getLsbD_eq fun n _ => (eq_false_of_ne_true (hnone n)).trans BitVec.getLsbD_zero.symm)
  · rintro ⟨n, hn⟩ rfl
    exact Bool.false_ne_true (BitVec.getLsbD_zero.symm.trans hn)

/-- A word is nonzero exactly if one of its bits is set, and the mask leaves bits 8:0. -/
theorem irq_eq_true_iff (s : State) :
    s.irq = true ↔ ∃ n ≤ 8, s.status.getLsbD n = true ∧ s.irqen.getLsbD n = true := by
  rw [State.irq, bne_iff_ne, ne_zero_iff_exists_getLsbD]
  refine exists_congr fun n => ?_
  rw [getLsbD_and_statusMask, BitVec.getLsbD_and, Bool.and_eq_true, Bool.and_eq_true, decide_eq_true_iff, and_comm]

/-! ## What moves the irq level (60_exceptions.md R165, R167) -/

theorem hostAccess_write_irqen (w : Word) (s : State) : hostAccess (.write 0x00C 4 w) s = .next (s.store .irqen w) := by
  have hreg : legalReg 0x00C 4 = some .irqen := legalReg_address .irqen
  simp only [hostAccess, busWrite, hreg, writeReg, Reg.access]

theorem hostAccess_write_status (w : Word) (s : State) : hostAccess (.write 0x008 4 w) s = .next (acknowledge w s) := by
  have hreg : legalReg 0x008 4 = some .status := legalReg_address .status
  simp only [hostAccess, busWrite, hreg, writeReg, Reg.access]

/-- The reserved bits that the store forces to 0 are none of the bits 8:0. -/
theorem irq_store_irqen_eq_true_iff (w : Word) (s : State) :
    (s.store .irqen w).irq = true ↔ ∃ n ≤ 8, s.status.getLsbD n = true ∧ w.getLsbD n = true := by
  rw [irq_eq_true_iff]
  refine exists_congr fun n => and_congr_right fun hn => and_congr_right fun _ => ?_
  have hbit : (w &&& statusMask).getLsbD n = w.getLsbD n := by
    rw [getLsbD_and_statusMask, decide_eq_true hn, Bool.and_true]
  exact iff_of_eq (congrArg (· = true) hbit)

theorem getLsbD_acknowledge_status (w : Word) (s : State) {n : Nat} (hn : n < 32) :
    (acknowledge w s).status.getLsbD n = (s.status.getLsbD n && !(w.getLsbD n && decide (n ≤ 8))) := by
  rw [acknowledge_status, BitVec.getLsbD_and, BitVec.getLsbD_not, getLsbD_and_statusMask, decide_eq_true hn, Bool.true_and]

/-- A bit that is still set after every enabled bit is acknowledged is not enabled. -/
theorem irq_acknowledge_irqen (s : State) : (acknowledge s.irqen s).irq = false := by
  rw [Bool.eq_false_iff, ne_eq, irq_eq_true_iff]
  rintro ⟨n, hn, hstatus, henabled⟩
  rw [acknowledge_irqen] at henabled
  rw [getLsbD_acknowledge_status _ _ (by omega), henabled, decide_eq_true hn] at hstatus
  simp at hstatus

/-- The level does not depend on what a Reset keeps. -/
theorem irq_doReset (s : State) : (doReset s).irq = false :=
  calc (doReset s).irq = State.reset.irq := rfl
    _ = false := rfl

/-- Settles O47: the level in bits, and one lemma for each event that moves it. -/
theorem irqIsLevelOfEnabledCauses : Obligations.IrqIsLevelOfEnabledCauses :=
  ⟨irq_eq_true_iff,
    fun w s => ⟨_, hostAccess_write_irqen w s, rfl, irq_store_irqen_eq_true_iff w s⟩,
    fun s => ⟨_, hostAccess_write_status s.irqen s, irq_acknowledge_irqen s⟩,
    fun s => ⟨_, rfl, irq_doReset s⟩⟩

end Sys2Proof.Machine
end

section
/-! PROOFS. The statements of 30_encoding.md: that decoder and encoder agree (R70-R76), and the checksum of a frame (R84). -/

namespace Sys2Proof.Machine

/-! ## Decoder and encoder (30_encoding.md R72, R73, R76) -/

/-- A legal word is determined by its OP and the operand fields of that OP: R73 makes every other field 0. -/
theorem eq_of_legalWord {u v : Word} (hu : legalWord u = true) (hv : legalWord v = true) (hop : opField u = opField v)
    (hsrc : opField u = 4 → srcField u = srcField v)
    (haxis : opField u = 1 ∨ opField u = 2 → axisField u = axisField v) : u = v := by
  obtain ⟨-, hres, husrc, huaxis⟩ := (legalWord_iff u).mp hu
  obtain ⟨-, hres', hvsrc, hvaxis⟩ := (legalWord_iff v).mp hv
  rw [← hop] at hvsrc hvaxis
  refine word_eq_iff_fields.mpr ⟨hop, hres.trans hres'.symm, ?_, ?_⟩
  · rcases husrc with hmix | hclear
    · exact hsrc hmix
    · rcases hvsrc with hmix | hclear'
      · exact hsrc hmix
      · exact hclear.trans hclear'.symm
  · by_cases huses : opField u = 1 ∨ opField u = 2
    · exact haxis huses
    · rw [← or_assoc] at huaxis hvaxis
      exact (huaxis.resolve_left huses).trans (hvaxis.resolve_left huses).symm

/-- The row of the opcode map that a command's words match. -/
def rowOf : Instr → OpRow
  | .nop => rowNop
  | .pidUpdate _ => rowPidUpdate
  | .pidReset _ => rowPidReset
  | .pidResetAll => rowPidResetAll
  | .mix _ => rowMix
  | .tick => rowTick

theorem rowOf_mem (i : Instr) : rowOf i ∈ opcodeMap := by
  cases i <;> simp [rowOf, opcodeMap]

theorem opField_rowOf (i : Instr) : opField (rowOf i).pattern = Laws.opOf i := by
  cases i <;> rfl

/-- The axis and the source that a command names, if it names one, are those of the word (30_encoding.md R74). -/
def OperandsFit (i : Instr) (w : Word) : Prop :=
  match i with
  | .pidUpdate a | .pidReset a => axisOperand w = a
  | .mix src => srcOperand w = src
  | _ => True

/-- What the decoder answers was read from the row that matched and from the operand fields. -/
theorem matches_of_decode {w : Word} {i : Instr} (h : decode w = .ok i) : (rowOf i).matches w = true ∧ OperandsFit i w := by
  unfold decode at h
  split_ifs at h with hnop hupdate hreset hall hmix htick <;> injection h with h <;> subst h
  exacts [⟨hnop, trivial⟩, ⟨hupdate, rfl⟩, ⟨hreset, rfl⟩, ⟨hall, trivial⟩, ⟨hmix, rfl⟩, ⟨htick, trivial⟩]

theorem decode_encode (i : Instr) : decode (encode i) = .ok i := by
  cases i with
  | pidUpdate a | pidReset a => cases a <;> decide
  | mix src => cases src <;> decide
  | _ => decide

theorem axisField_eq_of_axisOperand_eq {u v : Word} (h : axisOperand u = axisOperand v) : axisField u = axisField v :=
  ((axisOperand_eq_iff u _).mp h).trans ((axisOperand_eq_iff v _).mp rfl).symm

theorem srcField_eq_of_srcOperand_eq {u v : Word} (h : srcOperand u = srcOperand v) : srcField u = srcField v := by
  have hu := srcOperand_eq_iff u (srcOperand v)
  have hv := srcOperand_eq_iff v (srcOperand v)
  rw [Bool.eq_iff_iff, srcField, srcField, ← hu.mp h, hv.mp rfl]

/-- The decoder is injective: row and operand fields leave no freedom in a word. -/
theorem decode_inj {u v : Word} {i : Instr} (hu : decode u = .ok i) (hv : decode v = .ok i) : u = v := by
  obtain ⟨hmatch, hfit⟩ := matches_of_decode hu
  obtain ⟨hmatch', hfit'⟩ := matches_of_decode hv
  obtain ⟨hlegal, hop⟩ := (matches_iff_legalWord (rowOf_mem i) u).mp hmatch
  obtain ⟨hlegal', hop'⟩ := (matches_iff_legalWord (rowOf_mem i) v).mp hmatch'
  refine eq_of_legalWord hlegal hlegal' (hop.trans hop'.symm) ?_ ?_ <;> rw [hop, opField_rowOf]
  · intro hmix
    cases i with
    | mix src => exact srcField_eq_of_srcOperand_eq (hfit.trans hfit'.symm)
    | _ => simp [Laws.opOf] at hmix
  · intro huses
    cases i with
    | pidUpdate a | pidReset a => exact axisField_eq_of_axisOperand_eq (hfit.trans hfit'.symm)
    | _ => simp [Laws.opOf] at huses

/-- Settles O1: a command's own word decodes to it, and no other word does. -/
theorem decodeIffEncode : Obligations.DecodeIffEncode := by
  intro w i
  constructor
  · intro h
    exact decode_inj h (decode_encode i)
  · rintro rfl
    exact decode_encode i

/-- The six rows have six opcodes. -/
theorem opField_pattern_injective :
    ∀ r ∈ opcodeMap, ∀ r' ∈ opcodeMap, opField r.pattern = opField r'.pattern → r = r' := by
  decide

/-- Settles O3: a row matches only words of its own OP. -/
theorem opcodeRowsDisjoint : Obligations.OpcodeRowsDisjoint := by
  intro w r r' hr hr' hmatch hmatch'
  obtain ⟨-, hop⟩ := (matches_iff_legalWord hr w).mp hmatch
  obtain ⟨-, hop'⟩ := (matches_iff_legalWord hr' w).mp hmatch'
  exact opField_pattern_injective r hr r' hr' (hop.symm.trans hop')

/-- Settles O4: each written-out word is the word of its command. -/
theorem writtenOutWordsDecode : Obligations.WrittenOutWordsDecode :=
  ⟨decode_encode .nop, decode_encode (.pidUpdate .roll), decode_encode (.pidUpdate .pitch),
    decode_encode (.pidUpdate .yawRate), decode_encode (.pidUpdate .altitude), decode_encode (.pidReset .roll),
    decode_encode (.pidReset .pitch), decode_encode (.pidReset .yawRate), decode_encode (.pidReset .altitude),
    decode_encode .pidResetAll, decode_encode (.mix .pidout), decode_encode (.mix .mixin), decode_encode .tick⟩

/-! ## The checksum (30_encoding.md R84) -/

theorem toNat_frameWord (be : Bool) (first second : Byte) :
    (frameWord be first second).toNat =
      if be then 256 * first.toNat + second.toNat else first.toNat + 256 * second.toNat := by
  cases be with
  | true => exact toNat_append_bytes first second
  | false => exact (toNat_append_bytes second first).trans (Nat.add_comm _ _)

/-- The sum of bytes 0 to 29, before the reduction modulo 65536 that never changes it. -/
def byteSum (buf : Vector Byte 32) : Nat := ∑ i : Fin 30, (buf[i.val]).toNat

/-- The model's list sum is the indexed sum of the rule. -/
theorem sum_take_toList (buf : Vector Byte 32) : ((buf.toList.take 30).map BitVec.toNat).sum = byteSum buf := by
  have hlist : (buf.toList.take 30).map BitVec.toNat = List.ofFn fun i : Fin 30 => (buf[i.val]).toNat := by
    apply List.ext_getElem
    · simp
    · intro i h h'
      rw [List.getElem_map, List.getElem_take, Vector.getElem_toList, List.getElem_ofFn]
  rw [hlist, List.sum_ofFn, byteSum]

theorem frameSum_eq (buf : Vector Byte 32) : frameSum buf = byteSum buf % 65536 := by
  rw [frameSum, sum_take_toList]

/-- Thirty bytes of at most 255. -/
theorem byteSum_le (buf : Vector Byte 32) : byteSum buf ≤ 7650 := by
  calc byteSum buf ≤ ∑ _i : Fin 30, 255 := Finset.sum_le_sum fun i _ => Nat.le_of_lt_succ (buf[i.val]).isLt
    _ = 7650 := by simp

theorem checksumOk_iff (be : Bool) (buf : Vector Byte 32) :
    checksumOk be buf = true ↔ (frameWord be buf[30] buf[31]).toNat = 0xFFFF - byteSum buf % 65536 := by
  rw [checksumOk, beq_iff_eq, receivedChecksum, frameSum_eq]

/-- Settles O23: the check in numbers, the bound of the sum, and thirty bytes 0xFF for the least value. -/
theorem checksumIsAdditiveComplement : Obligations.ChecksumIsAdditiveComplement := by
  refine ⟨fun be buf => ⟨?_, byteSum_le buf, ?_⟩, Vector.replicate 32 0xFF, by simp⟩
  · rw [checksumOk_iff, toNat_frameWord]
    rfl
  · exact Nat.mod_eq_of_lt ((byteSum_le buf).trans_lt (by decide))

end Sys2Proof.Machine
end

section
/-! PROOFS. Who writes what (10_state.md, opening, and R21-R38): the registers that a command, a received byte, a host write and
a step can write, and the run of steps that keeps what each step keeps. -/

namespace Sys2Proof.Machine

/-! ## The writes of a command (40_pid.md R100-R104, 41_mixer.md R111, 42_controller.md R121) -/

/-- The registers that an update of an axis writes; LASTERR only with DUPD = 1 (40_pid.md R104). -/
def UpdateWrites (s : State) (a : Axis) (r : Reg) : Prop :=
  r = .axis a .iterm ∨ r = .axis a .pidout ∨ (r = .axis a .lasterr ∧ s.dupd = true)

/-- The registers, beside the error records, that a command may write in this state. -/
def CommandWrites (s : State) : Instr → Reg → Prop
  | .nop, _ => False
  | .pidUpdate a, r => UpdateWrites s a r
  | .pidReset a, r => r = .axis a .iterm
  | .pidResetAll, r => ∃ a, r = .axis a .iterm
  | .mix _, r => ∃ i, r = .act i
  | .tick, r => (∃ i, r = .act i) ∨ (∃ a, r = .axis a .iterm) ∨ (s.en = true ∧ ∃ a, UpdateWrites s a r)

theorem updatedBank_read_of_ne {d : Bool} (dt : Int) (b : AxisBank) {x : AxisReg} (hiterm : x ≠ .iterm) (hpidout : x ≠ .pidout)
    (hlasterr : x = .lasterr → d = false) : (updatedBank d dt b).read x = b.read x := by
  cases x with
  | iterm => exact absurd rfl hiterm
  | pidout => exact absurd rfl hpidout
  | lasterr => rw [hlasterr rfl]; rfl
  | _ => rfl

/-- An updated bank keeps the registers that the update does not write. -/
theorem updatedBank_read_of_not_updateWrites {s : State} {a : Axis} {x : AxisReg} (hx : ¬UpdateWrites s a (.axis a x)) :
    (updatedBank s.dupd (s32 s.dt) (s.bank a)).read x = (s.bank a).read x := by
  obtain ⟨hiterm, hrest⟩ := not_or.mp hx
  obtain ⟨hpidout, hlasterr⟩ := not_or.mp hrest
  refine updatedBank_read_of_ne _ _ (fun h => hiterm (h ▸ rfl)) (fun h => hpidout (h ▸ rfl)) fun h => ?_
  exact Bool.eq_false_iff.mpr fun hdupd => hlasterr ⟨h ▸ rfl, hdupd⟩

theorem read_pidCheckErrors (w : Word) (used : List Axis) (s : State) {r : Reg} (hr : ¬isRecord r) :
    (pidCheckErrors w used s).read r = s.read r :=
  (read_raiseWhen _ _ _ _ r hr).trans (read_raiseWhen _ _ _ _ r hr)

theorem keepsRegs_tickUpdate (w : Word) (s : State) :
    KeepsRegs (fun r => ¬isRecord r ∧ (∀ i, r ≠ .act i) ∧ ∀ a, ¬UpdateWrites s a r) s (tickUpdate w s) := by
  rintro r ⟨hrecord, hact, hbank⟩
  calc (tickUpdate w s).read r
      = ((s.mapBanks fun a => updatedBank s.dupd (s32 s.dt) (s.bank a)).setAct (mixvec s.matrix (tickOutputs s))).read r :=
        read_raiseWhen _ _ _ _ r hrecord
    _ = (s.mapBanks fun a => updatedBank s.dupd (s32 s.dt) (s.bank a)).read r := keepsRegs_setAct _ _ r hact
    _ = s.read r := keepsRegs_mapBanks (keep := fun q => ∀ a, ¬UpdateWrites s a q)
        (fun a _ hx => updatedBank_read_of_not_updateWrites (hx a)) r hbank

theorem keepsRegs_tickDisabled (s : State) :
    KeepsRegs (fun r => (∀ i, r ≠ .act i) ∧ ∀ a, r ≠ .axis a .iterm) s (tickDisabled s) := by
  rintro r ⟨hact, hiterm⟩
  refine (keepsRegs_setAct _ _ r hact).trans (keepsRegs_mapBanks (keep := fun q => ∀ a, q ≠ .axis a .iterm) ?_ r hiterm)
  exact fun a x hx => clearedBank_read_of_ne _ fun heq => hx a (congrArg (Reg.axis a) heq)

/-- The frame of every command. -/
theorem Executed.keepsRegs {i : Instr} {s t : State} (h : Executed i s t) :
    KeepsRegs (fun r => ¬isRecord r ∧ ¬CommandWrites s i r) s t := by
  rintro r ⟨hrecord, hkept⟩
  cases h with
  | nop => rfl
  | pidUpdate a _ check =>
    refine (read_raiseWhen _ _ _ _ r hrecord).trans ?_
    exact keepsRegs_setBank (keep := fun q => ¬UpdateWrites s a q) (fun _ => updatedBank_read_of_not_updateWrites) r hkept
  | pidUpdateDropped a _ check => exact read_pidCheckErrors _ _ _ hrecord
  | pidReset a =>
    refine keepsRegs_setBank (keep := fun q => q ≠ .axis a .iterm) (fun x hx => ?_) r hkept
    exact clearedBank_read_of_ne _ fun heq => hx (congrArg (Reg.axis a) heq)
  | pidResetAll =>
    refine keepsRegs_mapBanks (keep := fun q => ∀ a, q ≠ .axis a .iterm) (fun a x hx => ?_) r (not_exists.mp hkept)
    exact clearedBank_read_of_ne _ fun heq => hx a (congrArg (Reg.axis a) heq)
  | mix src => exact (read_raiseWhen _ _ _ _ r hrecord).trans (keepsRegs_setAct _ _ r (not_exists.mp hkept))
  | tickEnabled _ en check =>
    obtain ⟨hact, hrest⟩ := not_or.mp hkept
    obtain ⟨-, hbanks⟩ := not_or.mp hrest
    exact keepsRegs_tickUpdate _ s r ⟨hrecord, not_exists.mp hact, fun a ha => hbanks ⟨en, a, ha⟩⟩
  | tickDropped _ en check => exact read_pidCheckErrors _ _ _ hrecord
  | tickDisabled _ en =>
    obtain ⟨hact, hrest⟩ := not_or.mp hkept
    obtain ⟨hiterm, -⟩ := not_or.mp hrest
    exact keepsRegs_tickDisabled s r ⟨not_exists.mp hact, not_exists.mp hiterm⟩

/-! ## The writes of a received byte (43_decoder.md R131-R136) -/

/-- The byte completes a valid frame (43_decoder.md R132, R136). -/
def CompletesFrame (s : State) (b : Byte) : Prop :=
  lastByteDue s ∧ (s.hdrEn = true → (s.frameWith b)[0] = s.h0 ∧ (s.frameWith b)[1] = s.h1) ∧
    checksumOk s.be (s.frameWith b) = true

/-- The registers that a publication writes. -/
def PublicationWrites (r : Reg) : Prop := r = .inputs ∨ r = .framesOk ∨ (∃ k, r = .ch k) ∨ ∃ a, r = .axis a .sp

/-- The registers, beside the error records, that a received byte may write in this state. -/
def ReceiverWrites (s : State) (b : Byte) (r : Reg) : Prop :=
  r = .decState ∨ r = .resyncs ∨ r = .csumErrs ∨ (CompletesFrame s b ∧ PublicationWrites r)

theorem keepsRegs_setMode (s : State) (m : DecMode) : KeepsRegs (fun r => r ≠ .decState) s { s with mode := m } := by
  intro r hr
  cases r with
  | decState => exact absurd rfl hr
  | _ => rfl

theorem keepsRegs_startFrame (s : State) : KeepsRegs (fun r => r ≠ .decState) s (startFrame s) := by
  intro r hr
  cases r with
  | decState => exact absurd rfl hr
  | _ => rfl

theorem keepsRegs_publish_of_not_publicationWrites (b : Byte) (s : State) :
    KeepsRegs (fun r => ¬isRecord r ∧ ¬PublicationWrites r) s (publish b s) := by
  rintro r ⟨hrecord, hkept⟩
  obtain ⟨hinputs, hrest⟩ := not_or.mp hkept
  obtain ⟨hframes, hrest⟩ := not_or.mp hrest
  obtain ⟨hch, hsp⟩ := not_or.mp hrest
  exact keepsRegs_publish b s r ⟨hrecord, hinputs, hframes, not_exists.mp hch, not_exists.mp hsp⟩

theorem ne_status_of_not_isRecord {r : Reg} (hr : ¬isRecord r) : r ≠ .status := fun h => hr (h ▸ trivial)

/-- The frame of every received byte. -/
theorem Received.keepsRegs {b : Byte} {s t : State} (h : Received b s t) :
    KeepsRegs (fun r => ¬isRecord r ∧ ¬ReceiverWrites s b r) s t := by
  rintro r ⟨hrecord, hkept⟩
  obtain ⟨hdec, hrest⟩ := not_or.mp hkept
  obtain ⟨hresyncs, hrest⟩ := not_or.mp hrest
  obtain ⟨hcsum, hpublication⟩ := not_or.mp hrest
  have hstored := keepsRegs_storeByte b s r hdec
  have hstatus := ne_status_of_not_isRecord hrecord
  cases h with
  | stored => exact hstored
  | mismatch => exact (keepsRegs_headerMismatch _ r ⟨hdec, hresyncs, hstatus⟩).trans hstored
  | badChecksum => exact (keepsRegs_checksumFail _ r ⟨hcsum, hstatus⟩).trans hstored
  | published m c header checksum =>
    have hlast : lastByteDue s := ⟨m, c⟩
    have hcompletes : CompletesFrame s b :=
      ⟨hlast, (headerBad_last_eq_false_iff hlast b).mp header, storeByte_buf_last hlast b ▸ checksum⟩
    refine (keepsRegs_publish_of_not_publicationWrites b _ r ⟨hrecord, ?_⟩).trans hstored
    exact fun hwritten => hpublication ⟨hcompletes, hwritten⟩
  | scanHit => exact keepsRegs_setMode s _ r hdec
  | headerFound => exact keepsRegs_startFrame s r hdec
  | headerLost => exact keepsRegs_setMode s _ r hdec
  | _ => rfl

/-! ## The writes of the host (20_memory.md R55, R66) -/

/-- The table of what a bank register shows after a write to a bank register. -/
theorem AxisBank.read_write_of_ne (b : AxisBank) {x y : AxisReg} (w : Word) (hne : y ≠ x) : (b.write x w).read y = b.read y := by
  cases x <;> cases y <;> first | rfl | exact absurd rfl hne

/-- A stored register is the only one that changes. -/
theorem keepsRegs_store (s : State) (r : Reg) (w : Word) : KeepsRegs (fun q => q ≠ r) s (s.store r w) := by
  cases r with
  | axis a x =>
    refine keepsRegs_setBank fun y hy => ?_
    exact AxisBank.read_write_of_ne _ w fun heq => hy (congrArg (Reg.axis a) heq)
  | m i j =>
    intro q hq
    cases q with
    | m k l =>
      simp only [State.store, read_m, PerActuator.get_set]
      split_ifs with hk
      · subst hk
        exact (PerAxis.get_set _ _ _ _).trans (if_neg fun hl => hq (congrArg (Reg.m k) hl))
      · rfl
    | _ => rfl
  | mixin j =>
    intro q hq
    cases q with
    | mixin k =>
      exact (PerAxis.get_set _ _ _ _).trans (if_neg fun hk => hq (congrArg Reg.mixin hk))
    | _ => rfl
  | _ =>
    intro q hq
    cases q <;> first | rfl | exact absurd rfl hq

/-- A write to an RW-L register reaches that register alone, and nothing while LOCK = 1. -/
theorem LockableWritten.keepsRegs {addr : Addr} {r : Reg} {w : Word} {s t : State} (h : LockableWritten addr r w s t) :
    KeepsRegs (fun q => ¬isRecord q ∧ (q = r → s.lock = true)) s t := by
  rintro q ⟨hrecord, hlocked⟩
  have hne (hopen : s.lock = false) : q ≠ r := fun heq => absurd (hlocked heq) (Bool.eq_false_iff.mp hopen)
  cases h with
  | locked => exact read_raiseError _ _ _ q hrecord
  | chmap hopen hreg m =>
    have hq := hne hopen
    rw [hreg] at hq
    exact keepsRegs_setChmap s m q hq
  | chmapIllegal => exact read_raiseError _ _ _ q hrecord
  | stored hopen => exact keepsRegs_store s r w q (hne hopen)

/-! ## The writes of a step -/

theorem extractLsb'_zero_eq_setWidth (w : Word) : w.extractLsb' 0 8 = w.setWidth 8 := by
  apply BitVec.eq_of_toNat_eq
  rw [BitVec.extractLsb'_toNat, Nat.shiftRight_zero, BitVec.toNat_setWidth]

/-- What the next step may write beside the error records, if it is no Reset. -/
inductive StepWrites (s : State) (r : Reg) : Prop
  | host (hreg : writesReg r s) (hopen : r.access = .rw ∨ r.access = .rwl ∧ s.lock = false)
  | command (i : Instr) (hissued : issues i s) (hwrites : CommandWrites s i r)
  | received (b : Byte) (hbyte : receives b s) (hwrites : ReceiverWrites s b r)

/-- The frame of every step that is no Reset. -/
theorem step_keepsRegs {s t : State} (hstep : step s = .next t) (hreset : s.upcoming ≠ some .reset) :
    KeepsRegs (fun r => ¬isRecord r ∧ ¬StepWrites s r) s t := by
  rintro r ⟨hrecord, hkept⟩
  obtain ⟨-, rfl⟩ | ⟨a, rest, e, -, hnext, -, hperformed, -⟩ := step_cases hstep
  · rfl
  have htaken : (taken s a rest).read r = s.read r := by cases r <;> rfl
  have hcleared := (read_clearResponse (taken s a rest) r).trans htaken
  cases hperformed with
  | reset => exact absurd hnext hreset
  | read => exact htaken
  | illegalRead => exact (read_raiseError _ _ _ r hrecord).trans htaken
  | illegalWrite => exact (read_raiseError _ _ _ r hrecord).trans hcleared
  | writeRo => exact (read_raiseError _ _ _ r hrecord).trans hcleared
  | writeRwl addr size w _ _ q hreg hacc hwritten =>
    obtain ⟨rfl, -, -⟩ := access_of_legalReg hreg
    refine (hwritten.keepsRegs r ⟨hrecord, ?_⟩).trans hcleared
    rintro rfl
    by_contra hopen
    exact hkept (.host ⟨addr, w, hnext, hreg⟩ (.inr ⟨hacc, Bool.eq_false_iff.mpr hopen⟩))
  | writeRw addr size w _ q hreg hacc =>
    obtain ⟨rfl, -, -⟩ := access_of_legalReg hreg
    refine (keepsRegs_store _ q w r ?_).trans hcleared
    rintro rfl
    exact hkept (.host ⟨addr, w, hnext, hreg⟩ (.inl hacc))
  | writeStatus addr size w _ hreg =>
    refine Eq.trans ?_ hcleared
    cases r with
    | status => exact absurd trivial hrecord
    | _ => rfl
  | command addr size w _ _ hreg i hdecode hexecuted =>
    obtain ⟨rfl, -, -⟩ := access_of_legalReg hreg
    refine (hexecuted.keepsRegs r ⟨hrecord, fun hwrites => ?_⟩).trans hcleared
    exact hkept (.command i ⟨addr, w, hnext, hreg, hdecode⟩ hwrites)
  | illegalCommand => exact (read_raiseError _ _ _ r hrecord).trans hcleared
  | writeRxdata addr size w _ _ hreg hreceived =>
    obtain ⟨rfl, -, -⟩ := access_of_legalReg hreg
    refine (hreceived.keepsRegs r ⟨hrecord, fun hwrites => ?_⟩).trans hcleared
    exact hkept (.received _ (.inr ⟨addr, w, hnext, hreg, (extractLsb'_zero_eq_setWidth w).symm⟩) hwrites)
  | rxByte b _ _ hreceived =>
    refine (hreceived.keepsRegs r ⟨hrecord, fun hwrites => ?_⟩).trans hcleared
    exact hkept (.received b (.inl hnext) hwrites)

/-! ## Runs -/

/-- What every step keeps from a state of the run, the run keeps. -/
theorem runSteps_keeps {P Q : State → Prop} (hkeeps : ∀ s t, Q s → P s → step s = .next t → P t) {n : Nat} {s t : State}
    (hP : P s) (hQ : ∀ k < n, ∀ u, runSteps k s = .next u → Q u) (hrun : runSteps n s = .next t) : P t := by
  induction n generalizing s with
  | zero =>
    injection hrun with hrun
    exact hrun ▸ hP
  | succ n ih =>
    obtain ⟨u, hstep, hrun⟩ := runSteps_succ_inv hrun
    refine ih (hkeeps s u (hQ 0 n.succ_pos s rfl) hP hstep) (fun k hk v hv => ?_) hrun
    exact hQ (k + 1) (Nat.succ_lt_succ hk) v ((runSteps_succ k hstep).trans hv)

end Sys2Proof.Machine
end

section
/-! PROOFS. The statements about events and steps: how a step performs an event (20_memory.md R60, 30_encoding.md R72), Reset
(70_reset_and_hazards.md R180, R182), who writes the outputs (10_state.md R26-R35), the legacy mode (40_pid.md R104), the lock
(10_state.md R21) and that nothing stops the block (60_exceptions.md R160). -/

namespace Sys2Proof.Machine

/-! ## The event that a step performs (00_scope.md R12, 20_memory.md R60) -/

/-- A single arrival is taken whole: its event is performed with the arrivals after it. -/
theorem step_one {s : State} {e : Event} {rest : List Arrival} (h : s.arrivals = .one e :: rest) :
    step s = perform e { s with arrivals := rest } :=
  step_cons h

theorem step_one_host {s : State} {a : HostAccess} {rest : List Arrival} (hseen : s.seenReset = true)
    (h : s.arrivals = .one (.host a) :: rest) : step s = hostAccess a { s with arrivals := rest, readData := none } :=
  (step_one h).trans (if_pos hseen)

theorem step_one_rxByte {s : State} {b : Byte} {rest : List Arrival} (hseen : s.seenReset = true)
    (h : s.arrivals = .one (.rxByte b) :: rest) :
    step s = .next (rxByte b { s with arrivals := rest, readData := none }) :=
  (step_one h).trans (if_pos hseen)

theorem hostAccess_write_cmd (w : Word) (s : State) : hostAccess (.write 0x010 4 w) s = performCommand w s := by
  have hreg : legalReg 0x010 4 = some .cmd := legalReg_address .cmd
  simp only [hostAccess, busWrite, hreg, writeReg, Reg.access, if_true]

theorem step_command {s : State} {w : Word} {i : Instr} {rest : List Arrival} (hseen : s.seenReset = true)
    (h : s.arrivals = .one (.host (.write 0x010 4 w)) :: rest) (hdecode : decode w = .ok i) :
    step s = exec i { s with arrivals := rest, readData := none } := by
  rw [step_one_host hseen h, hostAccess_write_cmd, performCommand_ok hdecode]

theorem decode_of_decodeTableWord {nbits w : Nat} {i : Instr} (h : decodeTableWord nbits w = some i) :
    decode (tableWord nbits w) = .ok i := by
  unfold decodeTableWord at h
  split at h
  · next j hdecode => rw [hdecode, Option.some_inj.mp h]
  · cases h

/-- Settles O5: withFetchWord places the write to CMD that the first clause speaks of. -/
theorem stepPerformsDecodedCommand : Obligations.StepPerformsDecodedCommand := by
  refine ⟨fun s w i rest hseen h hdecode => step_command hseen h hdecode, fun s nbits w i h => ?_,
    fun s a rest hseen h => step_one_host hseen h, fun s b rest hseen h => step_one_rxByte hseen h⟩
  exact step_command (s := s.withFetchWord nbits w) rfl rfl (decode_of_decodeTableWord h)

theorem hostAccess_write_rxdata (w : Word) (s : State) :
    hostAccess (.write 0x308 4 w) s = .next (rxByte (w.extractLsb' 0 8) s) := by
  have hreg : legalReg 0x308 4 = some .rxdata := legalReg_address .rxdata
  simp only [hostAccess, busWrite, hreg, writeReg, Reg.access, reduceCtorEq, if_false, extractLsb'_zero_eq_setWidth]

/-- Settles O45: both arrivals perform the byte at the same state. -/
theorem rxdataWriteIsRxByte : Obligations.RxdataWriteIsRxByte := by
  intro w s rest hseen h
  rw [step_one_host hseen h, hostAccess_write_rxdata]
  exact (step_one_rxByte (s := { s with arrivals := .one (.rxByte (w.extractLsb' 0 8)) :: rest }) hseen rfl).symm

/-- Settles O52: the free value selects which of the two events is left as a single arrival. -/
theorem tieIsOneOfBothOrders : Obligations.TieIsOneOfBothOrders := by
  intro s a b rest h
  rw [step_cons h, taken]
  cases hfirst : Config.rxFirst s.ties with
  | true =>
    left
    rw [step_one rfl]
    simp only [splitArrival, hfirst, if_true, tiesAfter]
  | false =>
    right
    rw [step_one rfl]
    simp only [splitArrival, hfirst, Bool.false_eq_true, if_false, tiesAfter]

/-! ## Reset (70_reset_and_hazards.md R180, R182) -/

/-- Settles O49: the step is the Reset of the state with the arrival taken. -/
theorem resetRestoresEverything : Obligations.ResetRestoresEverything :=
  fun _ _ h => step_one h

/-- An upcoming event is the one that the step performs. -/
theorem step_of_upcoming {s : State} {e : Event} (h : s.upcoming = some e) :
    ∃ a rest, s.arrivals = a :: rest ∧ step s = perform e (taken s a rest) := by
  cases harrivals : s.arrivals with
  | nil => simp [State.upcoming, harrivals] at h
  | cons a rest =>
    rw [upcoming_cons harrivals, Option.some_inj] at h
    exact ⟨a, rest, rfl, h ▸ step_cons harrivals⟩

/-- Settles O51: the check stands before every event but Reset. -/
theorem nothingRunsBeforeReset : Obligations.NothingRunsBeforeReset := by
  intro s e hseen hnext
  obtain ⟨a, rest, -, hstep⟩ := step_of_upcoming hnext
  rw [hstep]
  constructor
  · exact perform_before_reset (s := taken s a rest) hseen
  · rintro rfl
    exact ⟨_, rfl, rfl⟩

/-! ## Nothing stops the block (60_exceptions.md R160, R174) -/

theorem Executed.seenReset_eq {i : Instr} {s t : State} (h : Executed i s t) : t.seenReset = s.seenReset := by
  cases h <;> simp

theorem LockableWritten.seenReset_eq {addr : Addr} {r : Reg} {w : Word} {s t : State} (h : LockableWritten addr r w s t) :
    t.seenReset = s.seenReset := by
  cases h with
  | stored => cases r <;> rfl
  | _ => rfl

/-- No event takes back that a Reset has happened. -/
theorem Performed.seenReset {e : Event} {s t : State} (h : Performed e s t) (hseen : s.seenReset = true) :
    t.seenReset = true := by
  cases h with
  | reset => rfl
  | writeRwl _ _ _ _ _ _ _ _ hwritten => exact hwritten.seenReset_eq.trans hseen
  | writeRw _ _ _ _ r => cases r <;> exact hseen
  | command _ _ _ _ _ _ _ _ hexecuted => exact hexecuted.seenReset_eq.trans hseen
  | writeRxdata _ _ _ _ _ _ hreceived => exact hreceived.arrivals_seenReset.2.trans hseen
  | rxByte _ _ _ hreceived => exact hreceived.arrivals_seenReset.2.trans hseen
  | _ => exact hseen

/-- After a Reset a step completes, and leaves the block able to take the next. -/
theorem step_completes {s : State} (hseen : s.seenReset = true) : ∃ t, step s = .next t ∧ t.seenReset = true := by
  cases harrivals : s.arrivals with
  | nil => exact ⟨s, step_nil harrivals, hseen⟩
  | cons a rest =>
    obtain ⟨t, hperform, hperformed⟩ := perform_completes (splitArrival a rest s.ties).1 (taken s a rest) hseen
    exact ⟨t, (step_cons harrivals).trans hperform, hperformed.seenReset hseen⟩

/-- Settles O56, by induction on the length of the run. -/
theorem noRunStopsAfterReset : Obligations.NoRunStopsAfterReset := by
  intro k
  induction k with
  | zero => exact fun s _ => ⟨s, rfl⟩
  | succ k ih =>
    intro s hseen
    obtain ⟨u, hstep, hseen'⟩ := step_completes hseen
    obtain ⟨t, hrun⟩ := ih u hseen'
    exact ⟨t, (runSteps_succ k hstep).trans hrun⟩

/-! ## Who writes the outputs (10_state.md R26, R27, R30, R34, R35)

Each register against the three ways a step can write it. -/

theorem issues_of_stepWrites_act {s : State} {i : Actuator} (h : StepWrites s (.act i)) :
    issues .tick s ∨ ∃ src, issues (.mix src) s := by
  cases h with
  | host _ hopen => simp [Reg.access] at hopen
  | command c hissued hwrites =>
    cases c with
    | tick => exact .inl hissued
    | mix src => exact .inr ⟨src, hissued⟩
    | _ => simp [CommandWrites, UpdateWrites] at hwrites
  | received _ _ hwrites => simp [ReceiverWrites, PublicationWrites] at hwrites

theorem issues_of_stepWrites_iterm {s : State} {a : Axis} (h : StepWrites s (.axis a .iterm)) :
    issues .tick s ∨ issues .pidResetAll s ∨ issues (.pidReset a) s ∨ issues (.pidUpdate a) s := by
  cases h with
  | host _ hopen => simp [Reg.access, AxisReg.access] at hopen
  | command c hissued hwrites =>
    cases c with
    | tick => exact .inl hissued
    | pidResetAll => exact .inr (.inl hissued)
    | pidReset b =>
      obtain rfl : a = b := by simpa [CommandWrites] using hwrites
      exact .inr (.inr (.inl hissued))
    | pidUpdate b =>
      obtain rfl : a = b := by simpa [CommandWrites, UpdateWrites] using hwrites
      exact .inr (.inr (.inr hissued))
    | _ => simp [CommandWrites] at hwrites
  | received _ _ hwrites => simp [ReceiverWrites, PublicationWrites] at hwrites

theorem issues_of_stepWrites_pidout {s : State} {a : Axis} (h : StepWrites s (.axis a .pidout)) :
    (issues .tick s ∧ s.en = true) ∨ issues (.pidUpdate a) s := by
  cases h with
  | host _ hopen => simp [Reg.access, AxisReg.access] at hopen
  | command c hissued hwrites =>
    cases c with
    | tick =>
      have hen : s.en = true := by simpa [CommandWrites, UpdateWrites] using hwrites
      exact .inl ⟨hissued, hen⟩
    | pidUpdate b =>
      obtain rfl : a = b := by simpa [CommandWrites, UpdateWrites] using hwrites
      exact .inr hissued
    | _ => simp [CommandWrites] at hwrites
  | received _ _ hwrites => simp [ReceiverWrites, PublicationWrites] at hwrites

/-- LASTERR has the writers of PIDOUT, and these only with DUPD = 1 (40_pid.md R104). -/
theorem issues_of_stepWrites_lasterr {s : State} {a : Axis} (h : StepWrites s (.axis a .lasterr)) :
    ((issues .tick s ∧ s.en = true) ∨ issues (.pidUpdate a) s) ∧ s.dupd = true := by
  cases h with
  | host _ hopen => simp [Reg.access, AxisReg.access] at hopen
  | command c hissued hwrites =>
    cases c with
    | tick =>
      obtain ⟨hen, hdupd⟩ : s.en = true ∧ s.dupd = true := by simpa [CommandWrites, UpdateWrites] using hwrites
      exact ⟨.inl ⟨hissued, hen⟩, hdupd⟩
    | pidUpdate b =>
      obtain ⟨rfl, hdupd⟩ : a = b ∧ s.dupd = true := by simpa [CommandWrites, UpdateWrites] using hwrites
      exact ⟨.inr hissued, hdupd⟩
    | _ => simp [CommandWrites] at hwrites
  | received _ _ hwrites => simp [ReceiverWrites, PublicationWrites] at hwrites

theorem writesReg_of_stepWrites_meas {s : State} {a : Axis} (h : StepWrites s (.axis a .meas)) :
    writesReg (.axis a .meas) s := by
  cases h with
  | host hreg _ => exact hreg
  | command c _ hwrites => cases c <;> simp [CommandWrites, UpdateWrites] at hwrites
  | received _ _ hwrites => simp [ReceiverWrites, PublicationWrites] at hwrites

/-- CH and FRAMES_OK are read-only to the host, and the receiver writes them by a publication alone. -/
theorem publishes_of_stepWrites {s : State} {r : Reg} (hr : r = .framesOk ∨ ∃ k, r = .ch k) (h : StepWrites s r) :
    publishes s := by
  cases h with
  | host _ hopen => rcases hr with rfl | ⟨k, rfl⟩ <;> simp [Reg.access] at hopen
  | command c _ hwrites =>
    rcases hr with rfl | ⟨k, rfl⟩ <;> cases c <;> simp [CommandWrites, UpdateWrites] at hwrites
  | received b hbyte hwrites =>
    have hcompletes : CompletesFrame s b := by
      rcases hr with rfl | ⟨k, rfl⟩ <;> simp [ReceiverWrites] at hwrites <;> exact hwrites.1
    exact ⟨b, hbyte, hcompletes⟩

/-- Settles O57: a register whose writers are absent is in the frame of the step. -/
theorem onlyNamedEventsWriteOutputs : Obligations.OnlyNamedEventsWriteOutputs := by
  intro s t hstep hreset
  have hkeeps := step_keepsRegs hstep hreset
  refine ⟨?_, fun a => ?_, fun a => ?_, fun a hmeas => ?_, fun hpublishes => ⟨fun k => ?_, ?_⟩⟩
  · rintro ⟨htick, hmix⟩ i
    refine hkeeps _ ⟨id, fun hwrites => ?_⟩
    exact (issues_of_stepWrites_act hwrites).elim htick fun ⟨src, hsrc⟩ => hmix src hsrc
  · rintro ⟨htick, hall, hone, hupdate⟩
    refine hkeeps _ ⟨id, fun hwrites => ?_⟩
    rcases issues_of_stepWrites_iterm hwrites with h | h | h | h
    exacts [htick h, hall h, hone h, hupdate h]
  · rintro ⟨htick, hupdate⟩
    exact ⟨hkeeps _ ⟨id, fun hwrites => (issues_of_stepWrites_pidout hwrites).elim htick hupdate⟩,
      hkeeps _ ⟨id, fun hwrites => (issues_of_stepWrites_lasterr hwrites).1.elim htick hupdate⟩⟩
  · exact hkeeps _ ⟨id, fun hwrites => hmeas (writesReg_of_stepWrites_meas hwrites)⟩
  · exact hkeeps _ ⟨id, fun hwrites => hpublishes (publishes_of_stepWrites (.inr ⟨k, rfl⟩) hwrites)⟩
  · exact hkeeps _ ⟨id, fun hwrites => hpublishes (publishes_of_stepWrites (.inl rfl) hwrites)⟩

/-! ## The legacy derivative mode (40_pid.md R104) -/

theorem lasterr_kept_of_legacy {s t : State} (hdupd : s.dupd = false) (hreset : s.upcoming ≠ some .reset)
    (hstep : step s = .next t) (a : Axis) : t.read (.axis a .lasterr) = s.read (.axis a .lasterr) := by
  refine step_keepsRegs hstep hreset _ ⟨id, fun hwrites => ?_⟩
  exact Bool.eq_false_iff.mp hdupd (issues_of_stepWrites_lasterr hwrites).2

/-- A Reset puts every axis bank at its reset value. -/
theorem bank_of_step_reset {s t : State} (hreset : s.upcoming = some .reset) (hstep : step s = .next t) (a : Axis) :
    t.bank a = AxisBank.reset := by
  obtain ⟨b, rest, -, hperform⟩ := step_of_upcoming hreset
  rw [hperform] at hstep
  injection hstep with hstep
  exact hstep ▸ bank_reset a

/-- Settles O20: a step keeps LASTERR, or is a Reset and makes it 0; a run by the induction on its steps. -/
theorem legacyModeNeverWritesLasterr : Obligations.LegacyModeNeverWritesLasterr := by
  refine ⟨fun s t => lasterr_kept_of_legacy, fun n s t hzero hlegacy hrun => ?_⟩
  refine runSteps_keeps (P := fun u => ∀ a, u.read (.axis a .lasterr) = 0) (fun u v hdupd hzero hstep a => ?_) hzero hlegacy hrun
  by_cases hreset : u.upcoming = some .reset
  · rw [read_axis, bank_of_step_reset hreset hstep, AxisBank.read_reset]
  · exact (lasterr_kept_of_legacy hdupd hreset hstep a).trans (hzero a)

/-! ## The lock (10_state.md R21, 60_exceptions.md R169) -/

/-- Commands write only read-only registers. -/
theorem CommandWrites.access_eq {s : State} {i : Instr} {r : Reg} (h : CommandWrites s i r) : r.access = .ro := by
  have hupdate {a : Axis} (hr : UpdateWrites s a r) : r.access = .ro := by
    rcases hr with rfl | rfl | ⟨rfl, -⟩ <;> rfl
  cases i with
  | nop => exact h.elim
  | pidUpdate a => exact hupdate h
  | pidReset a => exact congrArg Reg.access h
  | pidResetAll => obtain ⟨a, rfl⟩ := h; rfl
  | mix src => obtain ⟨i, rfl⟩ := h; rfl
  | tick =>
    obtain ⟨i, rfl⟩ | ⟨a, rfl⟩ | ⟨-, a, hr⟩ := h
    · rfl
    · rfl
    · exact hupdate hr

/-- A received byte writes no lockable register. -/
theorem ReceiverWrites.access_ne {s : State} {b : Byte} {r : Reg} (h : ReceiverWrites s b r) : r.access ≠ .rwl := by
  obtain rfl | rfl | rfl | ⟨-, rfl | rfl | ⟨k, rfl⟩ | ⟨a, rfl⟩⟩ := h <;> simp [Reg.access, AxisReg.access]

theorem lock_false_of_stepWrites {s : State} {r : Reg} (hr : r.access = .rwl) (h : StepWrites s r) : s.lock = false := by
  cases h with
  | host _ hopen =>
    rw [hr] at hopen
    simpa using hopen
  | command _ _ hwrites =>
    rw [hwrites.access_eq] at hr
    cases hr
  | received _ _ hwrites => exact absurd hr hwrites.access_ne

/-- A locked block keeps its whole configuration over a step that is no Reset; CTRL with LOCK is part of it. -/
theorem lockable_kept_of_locked {s t : State} (hlock : s.lock = true) (hreset : s.upcoming ≠ some .reset)
    (hstep : step s = .next t) : ∀ r : Reg, r.access = .rwl → t.read r = s.read r := by
  intro r hr
  have hrecord : ¬isRecord r := by
    cases r with
    | status | errinfo | errcause => cases hr
    | _ => exact id
  refine step_keepsRegs hstep hreset r ⟨hrecord, fun hwrites => ?_⟩
  exact Bool.eq_false_iff.mp (lock_false_of_stepWrites hr hwrites) hlock

theorem lock_eq_of_read_ctrl {s t : State} (h : t.read .ctrl = s.read .ctrl) : t.lock = s.lock :=
  congrArg (fun w : Word => w.getLsbD 0) h

/-- Settles O55, by the induction on the steps of the run. -/
theorem lockedConfigurationIsImmutable : Obligations.LockedConfigurationIsImmutable := by
  intro n s t hlock hnoReset hrun
  refine runSteps_keeps (P := fun u => u.lock = true ∧ ∀ r : Reg, r.access = .rwl → u.read r = s.read r) ?_
    ⟨hlock, fun _ _ => rfl⟩ hnoReset hrun
  rintro u v hreset ⟨hlocked, hsame⟩ hstep
  have hkept := lockable_kept_of_locked hlocked hreset hstep
  exact ⟨(lock_eq_of_read_ctrl (hkept .ctrl rfl)).trans hlocked, fun r hr => (hkept r hr).trans (hsame r hr)⟩

end Sys2Proof.Machine
end

section
/-! PROOFS. What every step keeps: the STATUS bits (10_state.md R22), the invariant of the legal states (R38, R42), and the
independence of stale frame bytes (R37). -/

namespace Sys2Proof.Machine

/-! ## The byte step, case by case (43_decoder.md R131, R134) -/

theorem rxByte_stored {b : Byte} {s : State} (hmode : s.mode = .aligned) (hcnt : s.cnt ≠ 31) : rxByte b s = storeByte b s := by
  simp only [rxByte, hmode, hcnt, if_false]

theorem rxByte_scanHit {b : Byte} {s : State} (hmode : s.mode = .scan0) (hb : b = s.h0) :
    rxByte b s = { s with mode := .scan1 } := by
  simp only [rxByte, hmode, hb, if_true]

theorem rxByte_scanMiss {b : Byte} {s : State} (hmode : s.mode = .scan0) (hb : b ≠ s.h0) : rxByte b s = s := by
  simp only [rxByte, hmode, hb, if_false]

theorem rxByte_headerFound {b : Byte} {s : State} (hmode : s.mode = .scan1) (hb : b = s.h1) : rxByte b s = startFrame s := by
  simp only [rxByte, hmode, hb, if_true]

theorem rxByte_headerRepeat {b : Byte} {s : State} (hmode : s.mode = .scan1) (hb1 : b ≠ s.h1) (hb0 : b = s.h0) :
    rxByte b s = s := by
  rw [rxByte, hmode]
  exact (if_neg hb1).trans (if_pos hb0)

theorem rxByte_headerLost {b : Byte} {s : State} (hmode : s.mode = .scan1) (hb1 : b ≠ s.h1) (hb0 : b ≠ s.h0) :
    rxByte b s = { s with mode := .scan0 } := by
  simp only [rxByte, hmode, hb1, if_false, hb0]

/-! ## STATUS bits are sticky (10_state.md R22) -/

/-- Every STATUS bit that is set stays set. -/
def KeepsStatusBits (s t : State) : Prop := ∀ n, s.status.getLsbD n = true → t.status.getLsbD n = true

theorem keepsStatusBits_of_eq {s t : State} (h : t.status = s.status) : KeepsStatusBits s t := fun _ hn => h ▸ hn

theorem keepsStatusBits_of_or {s t : State} {w : Word} (h : t.status = s.status ||| w) : KeepsStatusBits s t := by
  intro n hn
  rw [h, BitVec.getLsbD_or, hn, Bool.true_or]

theorem KeepsStatusBits.trans {s t u : State} (h : KeepsStatusBits s t) (k : KeepsStatusBits t u) : KeepsStatusBits s u :=
  fun n hn => k n (h n hn)

theorem keepsStatusBits_raiseError (c : Cause) (w : Word) (s : State) : KeepsStatusBits s (raiseError c w s) :=
  keepsStatusBits_of_or rfl

theorem keepsStatusBits_raiseWhen (p : Bool) (c : Cause) (w : Word) (s : State) : KeepsStatusBits s (raiseWhen p c w s) := by
  cases p with
  | true => exact keepsStatusBits_raiseError c w s
  | false => exact keepsStatusBits_of_eq rfl

theorem keepsStatusBits_raiseWhen_of_eq {s t : State} (h : t.status = s.status) (p : Bool) (c : Cause) (w : Word) :
    KeepsStatusBits s (raiseWhen p c w t) :=
  (keepsStatusBits_of_eq h).trans (keepsStatusBits_raiseWhen p c w t)

theorem keepsStatusBits_pidCheckErrors (w : Word) (used : List Axis) (s : State) :
    KeepsStatusBits s (pidCheckErrors w used s) :=
  (keepsStatusBits_raiseWhen _ _ _ _).trans (keepsStatusBits_raiseWhen _ _ _ _)

/-- A command clears no STATUS bit: its writes leave STATUS alone, and its errors add bits. -/
theorem Executed.keepsStatusBits {i : Instr} {s t : State} (h : Executed i s t) : KeepsStatusBits s t := by
  cases h with
  | pidUpdate | mix | tickEnabled =>
    apply keepsStatusBits_raiseWhen_of_eq
    rfl
  | pidUpdateDropped | tickDropped => exact keepsStatusBits_pidCheckErrors _ _ _
  | _ => exact keepsStatusBits_of_eq rfl

/-- A publication adds FRAME and possibly OVF. -/
theorem keepsStatusBits_publish (b : Byte) (s : State) : KeepsStatusBits s (publish b s) := by
  have hwrites : KeepsStatusBits s (publishWrites (channelWords s.be s.buf) s) :=
    keepsStatusBits_of_eq (publishWrites_status s _)
  exact (hwrites.trans (keepsStatusBits_of_or (signalEvent_status _ .frame))).trans (keepsStatusBits_raiseWhen _ _ _ _)

/-- A received byte clears no STATUS bit: a decoder event and an OVF add bits. -/
theorem Received.keepsStatusBits {b : Byte} {s t : State} (h : Received b s t) : KeepsStatusBits s t := by
  cases h with
  | mismatch | badChecksum => exact keepsStatusBits_of_or rfl
  | published => exact (keepsStatusBits_of_eq (storeByte_status s b)).trans (keepsStatusBits_publish b _)
  | _ => exact keepsStatusBits_of_eq rfl

theorem store_status (s : State) (r : Reg) (w : Word) : (s.store r w).status = s.status := by
  cases r <;> rfl

theorem LockableWritten.keepsStatusBits {addr : Addr} {r : Reg} {w : Word} {s t : State} (h : LockableWritten addr r w s t) :
    KeepsStatusBits s t := by
  cases h with
  | locked | chmapIllegal => exact keepsStatusBits_raiseError _ _ _
  | chmap => exact keepsStatusBits_of_eq rfl
  | stored => exact keepsStatusBits_of_eq (store_status _ _ _)

/-- An event that is neither a Reset nor a legal write of STATUS clears no STATUS bit. -/
theorem Performed.keepsStatusBits {e : Event} {s t : State} (h : Performed e s t) (hreset : e ≠ .reset)
    (hack : ∀ addr size w, e = .host (.write addr size w) → legalReg addr size ≠ some .status) : KeepsStatusBits s t := by
  have hcleared : KeepsStatusBits s (clearResponse s) := keepsStatusBits_of_eq rfl
  cases h with
  | reset => exact absurd rfl hreset
  | read => exact keepsStatusBits_of_eq rfl
  | illegalRead | illegalWrite | writeRo | illegalCommand => exact keepsStatusBits_of_or rfl
  | writeRwl _ _ _ _ _ _ _ _ hwritten => exact hcleared.trans hwritten.keepsStatusBits
  | writeRw => exact hcleared.trans (keepsStatusBits_of_eq (store_status _ _ _))
  | writeStatus addr size w _ hreg => exact absurd hreg (hack addr size w rfl)
  | command _ _ _ _ _ _ _ _ hexecuted => exact hcleared.trans hexecuted.keepsStatusBits
  | writeRxdata _ _ _ _ _ _ hreceived => exact hcleared.trans hreceived.keepsStatusBits
  | rxByte _ _ _ hreceived => exact hcleared.trans hreceived.keepsStatusBits

/-- Settles O48: the events that clear bits are those that the statement excludes. -/
theorem statusBitsAreSticky : Obligations.StatusBitsAreSticky := by
  intro s t hstep hreset hack
  obtain ⟨-, rfl⟩ | ⟨a, rest, e, -, hnext, -, hperformed, -⟩ := step_cases hstep
  · exact fun _ hn => hn
  · refine hperformed.keepsStatusBits (fun he => hreset (he ▸ hnext)) fun addr size w he hreg => ?_
    obtain ⟨rfl, -, -⟩ := access_of_legalReg hreg
    exact hack ⟨addr, w, he ▸ hnext, hreg⟩

/-! ## The invariant (10_state.md R38, R42) -/

/-- Settles O53. -/
theorem invariantHoldsAtReset : Obligations.InvariantHoldsAtReset :=
  { ctrl_reserved := by decide
    status_reserved := by decide
    irqen_reserved := by decide
    inputs_reserved := by decide
    hdr_reserved := by decide
    errcause_form := .inl ⟨rfl, rfl⟩
    scan_empty := fun _ => rfl }

/-- The invariant goes over to a state with the same words and capture registers. -/
theorem LegalState.of_eq {s t : State} (h : LegalState s) (hscan : t.mode ≠ .aligned → t.cnt = 0)
    (hctrl : t.ctrl = s.ctrl := by rfl) (hstatus : t.status = s.status := by rfl) (hirqen : t.irqen = s.irqen := by rfl)
    (hinputs : t.inputs = s.inputs := by rfl) (hhdr : t.hdr = s.hdr := by rfl) (hinfo : t.errinfo = s.errinfo := by rfl)
    (hcause : t.errcause = s.errcause := by rfl) : LegalState t :=
  { ctrl_reserved := hctrl ▸ h.ctrl_reserved
    status_reserved := hstatus ▸ h.status_reserved
    irqen_reserved := hirqen ▸ h.irqen_reserved
    inputs_reserved := hinputs ▸ h.inputs_reserved
    hdr_reserved := hhdr ▸ h.hdr_reserved
    errcause_form := hcause ▸ hinfo ▸ h.errcause_form
    scan_empty := hscan }

/-- A word masked by the bits that exist has its reserved bits 0. -/
theorem masked_reserved (w m : Word) : w &&& m &&& ~~~m = 0 := by
  rw [BitVec.and_assoc, BitVec.and_not_self]
  exact BitVec.and_zero

theorem or_reserved {u v m : Word} (hu : u &&& ~~~m = 0) (hv : v &&& ~~~m = 0) : (u ||| v) &&& ~~~m = 0 := by
  rw [BitVec.and_comm, BitVec.and_or_distrib_left, BitVec.and_comm, hu, BitVec.and_comm, hv]
  rfl

theorem legalState_raiseError {s : State} (h : LegalState s) (c : Cause) (w : Word) : LegalState (raiseError c w s) :=
  { h with
    status_reserved := or_reserved h.status_reserved (by cases c <;> rfl)
    errcause_form := .inr ⟨c, rfl⟩ }

theorem legalState_raiseWhen {s : State} (h : LegalState s) (p : Bool) (c : Cause) (w : Word) :
    LegalState (raiseWhen p c w s) := by
  cases p with
  | true => exact legalState_raiseError h c w
  | false => exact h

theorem legalState_signalEvent {s : State} (h : LegalState s) (e : DecEvent) : LegalState (signalEvent e s) :=
  { h with status_reserved := or_reserved h.status_reserved (by cases e <;> rfl) }

theorem legalState_acknowledge {s : State} (h : LegalState s) (w : Word) : LegalState (acknowledge w s) :=
  { h with
    status_reserved := by
      rw [acknowledge_status, BitVec.and_assoc, BitVec.and_comm (~~~_), ← BitVec.and_assoc, h.status_reserved]
      exact BitVec.zero_and }

theorem legalState_store {s : State} (h : LegalState s) (r : Reg) (w : Word) : LegalState (s.store r w) := by
  cases r with
  | ctrl => exact { h with ctrl_reserved := masked_reserved w _ }
  | irqen => exact { h with irqen_reserved := masked_reserved w _ }
  | inputs => exact { h with inputs_reserved := masked_reserved w _ }
  | hdr => exact { h with hdr_reserved := masked_reserved w _ }
  | _ => exact h.of_eq h.scan_empty

/-- A command touches the words of the invariant by raised errors alone. -/
theorem LegalState.executed {i : Instr} {s t : State} (hs : LegalState s) (h : Executed i s t) : LegalState t := by
  cases h with
  | nop => exact hs
  | pidUpdate | mix | tickEnabled =>
    apply legalState_raiseWhen
    exact hs.of_eq hs.scan_empty
  | pidUpdateDropped | tickDropped => exact legalState_raiseWhen (legalState_raiseWhen hs _ _ _) _ _ _
  | _ => exact hs.of_eq hs.scan_empty

theorem inputsWord_reserved (en : Bool) : inputsWord en &&& ~~~inputsMask = 0 := by
  cases en <;> rfl

theorem legalState_publishWrites {s : State} (h : LegalState s) (chs : Vector Chan 14) : LegalState (publishWrites chs s) :=
  { ctrl_reserved := by rw [publishWrites_ctrl]; exact h.ctrl_reserved
    status_reserved := by rw [publishWrites_status]; exact h.status_reserved
    irqen_reserved := by rw [publishWrites_irqen]; exact h.irqen_reserved
    inputs_reserved := by rw [publishWrites_inputs]; exact inputsWord_reserved _
    hdr_reserved := by rw [publishWrites_hdr]; exact h.hdr_reserved
    errcause_form := h.errcause_form
    scan_empty := h.scan_empty }

theorem legalState_publish {s : State} (h : LegalState s) (b : Byte) : LegalState (publish b s) :=
  legalState_raiseWhen (legalState_signalEvent (legalState_publishWrites h _) .frame) _ _ _

theorem legalState_storeByte {s : State} (h : LegalState s) (hmode : s.mode = .aligned) (b : Byte) :
    LegalState (storeByte b s) :=
  h.of_eq fun hscan => absurd hmode hscan

/-- R42: a header mismatch enters the scan with the count at 0, and the scan keeps it there until a header is found. -/
theorem LegalState.received {b : Byte} {s t : State} (hs : LegalState s) (h : Received b s t) : LegalState t := by
  cases h with
  | stored m => exact legalState_storeByte hs m b
  | mismatch m c =>
    have hscan : LegalState { storeByte b s with mode := .scan0, resyncs := countUp (storeByte b s).resyncs } :=
      (legalState_storeByte hs m b).of_eq fun _ => storeByte_cnt_last ⟨m, c⟩ b
    exact legalState_signalEvent hscan .resync
  | badChecksum m =>
    have hstored := legalState_storeByte hs m b
    have hcounted : LegalState { storeByte b s with csumErrs := countUp (storeByte b s).csumErrs } :=
      hstored.of_eq hstored.scan_empty
    exact legalState_signalEvent hcounted .csum
  | published m => exact legalState_publish (legalState_storeByte hs m b) b
  | scanHit m => exact hs.of_eq fun _ => hs.scan_empty (m ▸ by decide)
  | headerFound => exact hs.of_eq fun hscan => absurd rfl hscan
  | headerLost m => exact hs.of_eq fun _ => hs.scan_empty (m ▸ by decide)
  | _ => exact hs

theorem LegalState.lockableWritten {addr : Addr} {r : Reg} {w : Word} {s t : State} (hs : LegalState s)
    (h : LockableWritten addr r w s t) : LegalState t := by
  cases h with
  | locked | chmapIllegal => exact legalState_raiseError hs _ _
  | chmap => exact hs.of_eq hs.scan_empty
  | stored => exact legalState_store hs r w

theorem LegalState.performed {e : Event} {s t : State} (hs : LegalState s) (h : Performed e s t) : LegalState t := by
  have hcleared : LegalState (clearResponse s) := hs.of_eq hs.scan_empty
  cases h with
  | reset => exact invariantHoldsAtReset.of_eq fun _ => rfl
  | read => exact hs.of_eq hs.scan_empty
  | illegalRead =>
    apply legalState_raiseError
    exact hs.of_eq hs.scan_empty
  | illegalWrite | writeRo | illegalCommand => exact legalState_raiseError hcleared _ _
  | writeRwl _ _ _ _ _ _ _ _ hwritten => exact hcleared.lockableWritten hwritten
  | writeRw => exact legalState_store hcleared _ _
  | writeStatus => exact legalState_acknowledge hcleared _
  | command _ _ _ _ _ _ _ _ hexecuted => exact hcleared.executed hexecuted
  | writeRxdata _ _ _ _ _ _ hreceived => exact hcleared.received hreceived
  | rxByte _ _ _ hreceived => exact hcleared.received hreceived

/-- Settles O54: taking an arrival and performing its event both keep the invariant. -/
theorem stepKeepsInvariant : Obligations.StepKeepsInvariant := by
  intro s t hs hstep
  obtain ⟨-, rfl⟩ | ⟨a, rest, e, -, -, -, hperformed, -⟩ := step_cases hstep
  · exact hs
  · have htaken : LegalState (taken s a rest) := hs.of_eq hs.scan_empty
    exact htaken.performed hperformed

/-! ## Stale bytes are never read (10_state.md R37) -/

theorem sameButStale_refl (s : State) : SameButStale s s := ⟨⟨s.buf, rfl⟩, fun _ _ => rfl⟩

/-- An operation that does not touch the decoder carries stale bytes along. -/
theorem SameButStale.map {s s' : State} (h : SameButStale s s') (f : State → State)
    (hcommutes : ∀ u buf, f { u with buf := buf } = { f u with buf := buf }) (hbuf : ∀ u, (f u).buf = u.buf)
    (hcnt : ∀ u, (f u).cnt = u.cnt) : SameButStale (f s) (f s') := by
  obtain ⟨⟨buf, rfl⟩, hagree⟩ := h
  refine ⟨⟨buf, hcommutes s buf⟩, fun i hi => ?_⟩
  rw [hcnt] at hi
  simp only [hbuf]
  exact hagree i hi

theorem sameButStale_raiseError {s s' : State} (h : SameButStale s s') (c : Cause) (w : Word) :
    SameButStale (raiseError c w s) (raiseError c w s') :=
  h.map (raiseError c w) (fun _ _ => rfl) (fun _ => rfl) fun _ => rfl

theorem sameButStale_raiseWhen {s s' : State} (h : SameButStale s s') (p : Bool) (c : Cause) (w : Word) :
    SameButStale (raiseWhen p c w s) (raiseWhen p c w s') := by
  cases p with
  | true => exact sameButStale_raiseError h c w
  | false => exact h

theorem sameButStale_store {s s' : State} (h : SameButStale s s') (r : Reg) (w : Word) :
    SameButStale (s.store r w) (s'.store r w) := by
  refine h.map (·.store r w) (fun _ _ => ?_) (fun _ => ?_) (fun _ => ?_) <;> cases r <;> rfl

/-- Whatever the one outcome is, the other is of the same kind, up to stale bytes. -/
def AgreeButStale (o o' : Host.Outcome State Fault Refusal) : Prop :=
  ∀ t, o = .next t → ∃ t', o' = .next t' ∧ SameButStale t t'

theorem SameButStale.agree {t t' : State} (h : SameButStale t t') : AgreeButStale (.next t) (.next t') := by
  rintro u hu
  injection hu with hu
  exact ⟨t', rfl, hu ▸ h⟩

/-- No command reads the frame buffer. -/
theorem SameButStale.exec {s s' : State} (h : SameButStale s s') (i : Instr) : AgreeButStale (exec i s) (exec i s') := by
  have hsame := h
  obtain ⟨⟨buf, rfl⟩, -⟩ := h
  cases i with
  | nop => exact hsame.agree
  | pidUpdate a =>
    cases hcheck : pidCheckPasses s [a] with
    | true =>
      rw [exec_pidUpdate_of_check hcheck, exec_pidUpdate_of_check (s := { s with buf := buf }) hcheck]
      have hwritten := hsame.map (·.setBank a (updatedBank s.dupd (s32 s.dt) (s.bank a))) (fun _ _ => rfl) (fun _ => rfl)
        fun _ => rfl
      exact (sameButStale_raiseWhen hwritten _ _ _).agree
    | false =>
      rw [exec_pidUpdate_dropped hcheck, exec_pidUpdate_dropped (s := { s with buf := buf }) hcheck]
      exact (sameButStale_raiseWhen (sameButStale_raiseWhen hsame _ _ _) _ _ _).agree
  | pidReset a =>
    exact (hsame.map (·.setBank a (clearedBank (s.bank a))) (fun _ _ => rfl) (fun _ => rfl) fun _ => rfl).agree
  | pidResetAll =>
    exact (hsame.map (·.mapBanks fun a => clearedBank (s.bank a)) (fun _ _ => rfl) (fun _ => rfl) fun _ => rfl).agree
  | mix src =>
    have hwritten := hsame.map (·.setAct (mixvec s.matrix (mixOperand src s))) (fun _ _ => rfl) (fun _ => rfl) fun _ => rfl
    rw [exec_mix, exec_mix]
    cases src <;> exact (sameButStale_raiseWhen hwritten _ _ _).agree
  | tick =>
    cases hen : s.en with
    | false =>
      rw [exec_tick_disabled hen, exec_tick_disabled (s := { s with buf := buf }) hen]
      exact (hsame.map tickDisabled (fun _ _ => rfl) (fun _ => rfl) fun _ => rfl).agree
    | true =>
      cases hcheck : pidCheckPasses s Axis.all with
      | true =>
        rw [exec_tick_enabled hen hcheck, exec_tick_enabled (s := { s with buf := buf }) hen hcheck]
        have hwritten := hsame.map
          (fun u => (u.mapBanks fun a => updatedBank s.dupd (s32 s.dt) (s.bank a)).setAct (mixvec s.matrix (tickOutputs s)))
          (fun _ _ => rfl) (fun _ => rfl) fun _ => rfl
        exact (sameButStale_raiseWhen hwritten _ _ _).agree
      | false =>
        rw [exec_tick_dropped hen hcheck, exec_tick_dropped (s := { s with buf := buf }) hen hcheck]
        exact (sameButStale_raiseWhen (sameButStale_raiseWhen hsame _ _ _) _ _ _).agree

theorem SameButStale.cnt_eq {s s' : State} (h : SameButStale s s') : s'.cnt = s.cnt := by
  obtain ⟨⟨buf, rfl⟩, -⟩ := h
  rfl

theorem SameButStale.mode_eq {s s' : State} (h : SameButStale s s') : s'.mode = s.mode := by
  obtain ⟨⟨buf, rfl⟩, -⟩ := h
  rfl

theorem SameButStale.h0_eq {s s' : State} (h : SameButStale s s') : s'.h0 = s.h0 := by
  obtain ⟨⟨buf, rfl⟩, -⟩ := h
  rfl

theorem SameButStale.h1_eq {s s' : State} (h : SameButStale s s') : s'.h1 = s.h1 := by
  obtain ⟨⟨buf, rfl⟩, -⟩ := h
  rfl

/-- A stored byte joins the bytes that are held. -/
theorem sameButStale_storeByte {s s' : State} (h : SameButStale s s') (hcnt : s.cnt ≠ 31) (b : Byte) :
    SameButStale (storeByte b s) (storeByte b s') := by
  obtain ⟨⟨buf, rfl⟩, hagree⟩ := h
  refine ⟨⟨buf.set s.cnt b, rfl⟩, fun i hi => ?_⟩
  have hnext : (s.cnt + 1).val = s.cnt.val + 1 := Fin.val_add_one_of_lt' (by omega)
  have hlt : i.val < (s.cnt + 1).val := hi
  simp only [storeByte_buf, Fin.getElem_fin, Vector.getElem_set]
  split_ifs with heq
  · rfl
  · exact hagree i (by omega)

/-- With the 32nd byte nothing is stale. -/
theorem SameButStale.storeByte_last {s s' : State} (h : SameButStale s s') (hcnt : s.cnt = 31) (b : Byte) :
    storeByte b s' = storeByte b s := by
  obtain ⟨⟨buf, rfl⟩, hagree⟩ := h
  have hbuf : buf.set s.cnt b = s.buf.set s.cnt b := by
    refine Vector.ext fun i hi => ?_
    rw [Vector.getElem_set, Vector.getElem_set]
    split_ifs with heq
    · rfl
    · refine hagree ⟨i, hi⟩ ?_
      rw [hcnt] at heq ⊢
      rw [Fin.lt_def]
      exact lt_of_le_of_ne (Nat.le_of_lt_succ hi) (Ne.symm heq)
  simp only [storeByte, hbuf]

theorem sameButStale_setMode {s s' : State} (h : SameButStale s s') (m : DecMode) :
    SameButStale { s with mode := m } { s' with mode := m } :=
  h.map (fun u => { u with mode := m }) (fun _ _ => rfl) (fun _ => rfl) fun _ => rfl

/-- A found header is held whole, and every other byte is stale. -/
theorem sameButStale_startFrame {s s' : State} (h : SameButStale s s') : SameButStale (startFrame s) (startFrame s') := by
  obtain ⟨⟨buf, rfl⟩, -⟩ := h
  refine ⟨⟨(buf.set 0 s.h0).set 1 s.h1, rfl⟩, fun i hi => ?_⟩
  have hlt : i.val < 2 := hi
  simp only [startFrame_buf, Fin.getElem_fin, Vector.getElem_set]
  split_ifs with h1 h0
  · rfl
  · rfl
  · omega

/-- The byte step reads the buffer only when all 32 bytes are held (43_decoder.md R131, R132). -/
theorem sameButStale_rxByte {s s' : State} (h : SameButStale s s') (b : Byte) : SameButStale (rxByte b s) (rxByte b s') := by
  have hmode' := h.mode_eq
  have hh0 := h.h0_eq
  have hh1 := h.h1_eq
  cases hmode : s.mode with
  | aligned =>
    rw [hmode] at hmode'
    by_cases hcnt : s.cnt = 31
    · rw [rxByte_last ⟨hmode, hcnt⟩, rxByte_last ⟨hmode', h.cnt_eq.trans hcnt⟩, h.storeByte_last hcnt]
      exact sameButStale_refl _
    · rw [rxByte_stored hmode hcnt, rxByte_stored hmode' (h.cnt_eq ▸ hcnt)]
      exact sameButStale_storeByte h hcnt b
  | scan0 =>
    rw [hmode] at hmode'
    by_cases hb : b = s.h0
    · rw [rxByte_scanHit hmode hb, rxByte_scanHit hmode' (hb.trans hh0.symm)]
      exact sameButStale_setMode h _
    · rw [rxByte_scanMiss hmode hb, rxByte_scanMiss hmode' (hh0 ▸ hb)]
      exact h
  | scan1 =>
    rw [hmode] at hmode'
    by_cases hb1 : b = s.h1
    · rw [rxByte_headerFound hmode hb1, rxByte_headerFound hmode' (hb1.trans hh1.symm)]
      exact sameButStale_startFrame h
    · by_cases hb0 : b = s.h0
      · rw [rxByte_headerRepeat hmode hb1 hb0, rxByte_headerRepeat hmode' (hh1 ▸ hb1) (hb0.trans hh0.symm)]
        exact h
      · rw [rxByte_headerLost hmode hb1 hb0, rxByte_headerLost hmode' (hh1 ▸ hb1) (hh0 ▸ hb0)]
        exact sameButStale_setMode h _

/-! An event, along the definitions that perform it. -/

theorem SameButStale.writeLockable {s s' : State} (h : SameButStale s s') (addr : Addr) (r : Reg) (w : Word) :
    SameButStale (writeLockable addr r w s) (writeLockable addr r w s') := by
  have hlock : s'.lock = s.lock := by
    obtain ⟨⟨buf, rfl⟩, -⟩ := h
    rfl
  unfold Machine.writeLockable
  rw [hlock]
  split_ifs
  · exact sameButStale_raiseError h _ _
  · split
    · exact h.map (fun u => { u with chmap := _ }) (fun _ _ => rfl) (fun _ => rfl) fun _ => rfl
    · exact sameButStale_raiseError h _ _
  · exact sameButStale_store h r w

theorem SameButStale.performCommand {s s' : State} (h : SameButStale s s') (w : Word) :
    AgreeButStale (performCommand w s) (performCommand w s') := by
  cases hdecode : decode w with
  | ok i =>
    rw [performCommand_ok hdecode, performCommand_ok hdecode]
    exact h.exec i
  | error e =>
    rw [performCommand_error hdecode, performCommand_error hdecode]
    exact (sameButStale_raiseError h _ _).agree

theorem SameButStale.busWrite {s s' : State} (h : SameButStale s s') (addr : Addr) (size : Nat) (w : Word) :
    AgreeButStale (busWrite addr size w s) (busWrite addr size w s') := by
  unfold Machine.busWrite
  cases legalReg addr size with
  | none => exact (sameButStale_raiseError h _ _).agree
  | some r =>
    simp only [writeReg]
    cases r.access with
    | ro => exact (sameButStale_raiseError h _ _).agree
    | rwl => exact (h.writeLockable addr r w).agree
    | rw => exact (sameButStale_store h r w).agree
    | w1c => exact (h.map (acknowledge w) (fun _ _ => rfl) (fun _ => rfl) fun _ => rfl).agree
    | wo =>
      by_cases hr : r = .cmd
      · simp only [hr, if_true]
        exact h.performCommand w
      · simp only [hr, if_false]
        exact (sameButStale_rxByte h _).agree

theorem SameButStale.busRead {s s' : State} (h : SameButStale s s') (addr : Addr) (size : Nat) :
    SameButStale (busRead addr size s) (busRead addr size s') := by
  unfold Machine.busRead
  cases legalReg addr size with
  | none =>
    exact sameButStale_raiseError
      (h.map (fun u => { u with readData := some 0 }) (fun _ _ => rfl) (fun _ => rfl) fun _ => rfl) _ _
  | some r =>
    have hread : s'.read r = s.read r := by
      obtain ⟨⟨buf, rfl⟩, -⟩ := h
      cases r <;> rfl
    simp only [hread]
    exact h.map (fun u => { u with readData := some (s.read r) }) (fun _ _ => rfl) (fun _ => rfl) fun _ => rfl

theorem SameButStale.perform {s s' : State} (h : SameButStale s s') (e : Event) :
    AgreeButStale (perform e s) (perform e s') := by
  have hcleared : SameButStale (clearResponse s) (clearResponse s') :=
    h.map clearResponse (fun _ _ => rfl) (fun _ => rfl) fun _ => rfl
  have hseen : s'.seenReset = s.seenReset := by
    obtain ⟨⟨buf, rfl⟩, -⟩ := h
    rfl
  cases e with
  | reset =>
    have hreset : doReset s' = doReset s := by
      obtain ⟨⟨buf, rfl⟩, -⟩ := h
      rfl
    simp only [Machine.perform, hreset]
    exact (sameButStale_refl _).agree
  | host a =>
    simp only [Machine.perform, hseen]
    split_ifs
    · cases a with
      | read addr size => exact (hcleared.busRead addr size).agree
      | write addr size w => exact hcleared.busWrite addr size w
    · exact fun t ht => by cases ht
  | rxByte b =>
    simp only [Machine.perform, hseen]
    split_ifs
    · exact (sameButStale_rxByte hcleared b).agree
    · exact fun t ht => by cases ht

/-- Settles O36: the same arrival is taken in both states, and its event is performed alike. -/
theorem staleBytesAreNeverRead : Obligations.StaleBytesAreNeverRead := by
  intro s s' t h hstep
  have harrivals : s'.arrivals = s.arrivals ∧ s'.ties = s.ties := by
    obtain ⟨⟨buf, rfl⟩, -⟩ := h
    exact ⟨rfl, rfl⟩
  obtain ⟨hlist, hties⟩ := harrivals
  cases hcase : s.arrivals with
  | nil =>
    rw [step_nil hcase] at hstep
    rw [step_nil (hlist.trans hcase)]
    exact h.agree t hstep
  | cons a rest =>
    rw [step_cons hcase] at hstep
    rw [step_cons (hlist.trans hcase), hties]
    have htaken : SameButStale (taken s a rest) (taken s' a rest) := by
      simp only [taken, hties]
      exact h.map (fun u => { u with arrivals := (splitArrival a rest s.ties).2, ties := tiesAfter a s.ties })
        (fun _ _ => rfl) (fun _ => rfl) fun _ => rfl
    exact htaken.perform _ t hstep

end Sys2Proof.Machine
end

section
/-! PROOFS. The statements of 20_memory.md: the register map (R53), and writes to registers of each access type (R55). -/

namespace Sys2Proof.Machine

/-- Settles O38: the two directions of the map. -/
theorem registerMapRoundTrip : Obligations.RegisterMapRoundTrip := by
  refine ⟨fun r => ⟨(address_lt_and_aligned r).1, legalReg_address r⟩, fun addr size r h => ?_⟩
  obtain ⟨hsize, -, haddr⟩ := access_of_legalReg h
  exact ⟨hsize, haddr.symm⟩

/-! ## A write to a register at its address (20_memory.md R55) -/

theorem hostAccess_write_address (r : Reg) (w : Word) (s : State) :
    hostAccess (.write (BitVec.ofNat 12 r.address) 4 w) s = writeReg (BitVec.ofNat 12 r.address) r w s := by
  simp only [hostAccess, busWrite, legalReg_address]

theorem writeReg_rw {addr : Addr} {r : Reg} (h : r.access = .rw) (w : Word) (s : State) :
    writeReg addr r w s = .next (s.store r w) := by
  simp only [writeReg, h]

theorem writeReg_ro {addr : Addr} {r : Reg} (h : r.access = .ro) (w : Word) (s : State) :
    writeReg addr r w s = .next (raiseError .busErr (addrInfo addr) s) := by
  simp only [writeReg, h]

theorem writeReg_rwl {addr : Addr} {r : Reg} (h : r.access = .rwl) (w : Word) (s : State) :
    writeReg addr r w s = .next (writeLockable addr r w s) := by
  simp only [writeReg, h]

theorem writeLockable_locked {addr : Addr} {r : Reg} {w : Word} {s : State} (hlock : s.lock = true) :
    writeLockable addr r w s = raiseError .lockErr (addrInfo addr) s := by
  simp only [writeLockable, hlock, if_true]

theorem writeLockable_stored {addr : Addr} {r : Reg} {w : Word} {s : State} (hlock : s.lock = false) (hr : r ≠ .chmap) :
    writeLockable addr r w s = s.store r w := by
  simp [writeLockable, hlock, hr]

/-- A write that the access type and the lock let through is a store. -/
theorem writeReg_stored {addr : Addr} {r : Reg} (hr : r ≠ .chmap) {s : State}
    (hopen : r.access = .rw ∨ (r.access = .rwl ∧ s.lock = false)) (w : Word) :
    writeReg addr r w s = .next (s.store r w) := by
  obtain hrw | ⟨hrwl, hlock⟩ := hopen
  · exact writeReg_rw hrw w s
  · rw [writeReg_rwl hrwl, writeLockable_stored hlock hr]

theorem AxisBank.read_write_self (b : AxisBank) {x : AxisReg} (hx : x.access ≠ .ro) (w : Word) : (b.write x w).read x = w := by
  cases x with
  | iterm | lasterr | pidout => exact absurd rfl hx
  | _ => rfl

/-- A stored register reads as the data without the bits that do not exist. -/
theorem read_store_self {r : Reg} (hr : r ≠ .chmap) (haccess : r.access = .rw ∨ r.access = .rwl) (w : Word) (s : State) :
    (s.store r w).read r = w &&& r.mask := by
  have hfull : w &&& 0xFFFFFFFF = w := BitVec.and_allOnes
  cases r with
  | ctrl | irqen | inputs | hdr => rfl
  | chmap => exact absurd rfl hr
  | dt => exact hfull.symm
  | axis a x =>
    have hx : x.access ≠ .ro := fun hro => by rcases haccess with h | h <;> exact absurd (hro.symm.trans h) (by decide)
    refine Eq.trans ?_ hfull.symm
    rw [State.store, read_axis, setBank_bank_self, AxisBank.read_write_self _ hx]
  | m i j =>
    refine Eq.trans ?_ hfull.symm
    simp only [State.store, read_m, PerActuator.get_set_self, PerAxis.get_set_self]
  | mixin j =>
    refine Eq.trans ?_ hfull.symm
    simp only [State.store, read_mixin, PerAxis.get_set_self]
  | _ => simp [Reg.access] at haccess

theorem sameHidden_store (s : State) (r : Reg) (w : Word) : SameHidden s (s.store r w) := by
  cases r <;> exact ⟨rfl, rfl, rfl, rfl, rfl, rfl, rfl⟩

/-- Settles O41: the write is a store, which reaches its register alone. -/
theorem writeThenReadReturnsData : Obligations.WriteThenReadReturnsData := by
  intro r w s hr hopen
  refine ⟨s.store r w, ?_, read_store_self hr (hopen.imp_right And.left) w s, keepsRegs_store s r w, sameHidden_store s r w⟩
  rw [hostAccess_write_address, writeReg_stored hr hopen]

/-- ERRINFO shows the byte address (60_exceptions.md R161). -/
theorem addrInfo_address (r : Reg) : addrInfo (BitVec.ofNat 12 r.address) = BitVec.ofNat 32 r.address := by
  obtain ⟨hlt, -⟩ := address_lt_and_aligned r
  apply BitVec.eq_of_toNat_eq
  rw [addrInfo, BitVec.toNat_setWidth_of_le (by decide), BitVec.toNat_ofNat, BitVec.toNat_ofNat, Nat.mod_eq_of_lt hlt,
    Nat.mod_eq_of_lt (hlt.trans (by decide))]

/-- Settles O42: both writes are one raised error. -/
theorem refusedWriteOnlyRaises : Obligations.RefusedWriteOnlyRaises := by
  intro r w s
  rw [hostAccess_write_address, ← addrInfo_address]
  constructor
  · intro hro
    exact ⟨_, writeReg_ro hro w s, onlyRecords_raiseError .busErr _ s⟩
  · intro hrwl hlock
    refine ⟨_, ?_, onlyRecords_raiseError .lockErr _ s⟩
    rw [writeReg_rwl hrwl, writeLockable_locked hlock]

/-- An acknowledgement shows in STATUS alone (60_exceptions.md R167). -/
theorem keepsRegs_acknowledge (w : Word) (s : State) : KeepsRegs (fun r => r ≠ .status) s (acknowledge w s) := by
  intro r hr
  cases r with
  | status => exact absurd rfl hr
  | _ => rfl

/-- Settles O44. -/
theorem statusWriteClearsOnes : Obligations.StatusWriteClearsOnes :=
  fun w s => ⟨_, hostAccess_write_status w s, fun _ hn => getLsbD_acknowledge_status w s hn, keepsRegs_acknowledge w s,
    ⟨rfl, rfl, rfl, rfl, rfl, rfl, rfl⟩⟩

end Sys2Proof.Machine
end

section
/-! PROOFS. The statements of 00_scope.md, 40_pid.md and 42_controller.md on arithmetic and control: the primitives (R9), the
datapath widths (R105), PID.UPDATE (R101, R106), TICK (R121), the integrator's limit (10_state.md R42) and Scenario B (R123). -/

namespace Sys2Proof.Machine

/-! ## The primitives (00_scope.md R9) -/

theorem floorDiv_greatest (n : Int) {d : Int} (hd : 0 < d) :
    floorDiv n d * d ≤ n ∧ ∀ q : Int, q * d ≤ n → q ≤ floorDiv n d := by
  rw [floorDiv_eq_div n hd]
  exact ⟨Int.ediv_mul_le n hd.ne', fun q hq => (Int.le_ediv_iff_mul_le hd).mpr hq⟩

theorem tmod_sign (n d : Int) : (0 ≤ n → 0 ≤ n.tmod d) ∧ (n ≤ 0 → n.tmod d ≤ 0) := by
  refine ⟨Int.tmod_nonneg d, fun hn => ?_⟩
  have hneg : 0 ≤ (-n).tmod d := Int.tmod_nonneg d (neg_nonneg.mpr hn)
  rwa [Int.neg_tmod, neg_nonneg] at hneg

/-- Rounded toward zero, the multiple of the divisor is the dividend without its remainder, which has the dividend's sign. -/
theorem truncDiv_toward_zero (n : Int) {d : Int} (hd : d ≠ 0) :
    |truncDiv n d * d| ≤ |n| ∧ |n| < |truncDiv n d * d| + |d| ∧ 0 ≤ (truncDiv n d * d) * n := by
  have hsplit : truncDiv n d * d = n - n.tmod d := eq_sub_of_add_eq (Int.tdiv_mul_add_tmod n d)
  have hlt : (n.tmod d).natAbs < d.natAbs := Int.natAbs_tmod n d ▸ Nat.mod_lt _ (Int.natAbs_pos.mpr hd)
  have hle : (n.tmod d).natAbs ≤ n.natAbs := Int.natAbs_tmod n d ▸ Nat.mod_le _ _
  obtain ⟨hpos, hneg⟩ := tmod_sign n d
  rw [hsplit, Int.abs_eq_natAbs, Int.abs_eq_natAbs, Int.abs_eq_natAbs]
  refine ⟨by omega, by omega, ?_⟩
  rcases le_total 0 n with hn | hn
  · exact mul_nonneg (by omega) hn
  · exact mul_nonneg_of_nonpos_of_nonpos (by omega) hn

theorem sat32_of_lt {v : Int} (h : v < -2 ^ 31) : sat32 v = -2 ^ 31 := if_pos h

theorem sat32_of_gt {v : Int} (h : 2 ^ 31 - 1 < v) : sat32 v = 2 ^ 31 - 1 := by
  have hlow : ¬v < minS32 := by
    unfold minS32
    omega
  exact (if_neg hlow).trans (if_pos h)

theorem sat32_of_fits {v : Int} (h : ¬OutOfRange v) : sat32 v = v := by
  obtain ⟨hlow, hhigh⟩ := not_or.mp h
  exact (if_neg hlow).trans (if_neg hhigh)

theorem clamp_bounds {lo hi : Int} (h : lo ≤ hi) (v : Int) : lo ≤ clamp v lo hi ∧ clamp v lo hi ≤ hi :=
  ⟨le_max_left _ _, max_le h (min_le_right _ _)⟩

/-- Settles O21: one lemma for each primitive; the two fixed-point operations are their own definitions. -/
theorem primitivesRoundAsDefined : Obligations.PrimitivesRoundAsDefined :=
  ⟨fun n _ hd => floorDiv_greatest n hd, fun n _ hd => truncDiv_toward_zero n hd,
    fun _ => ⟨sat32_of_lt, sat32_of_gt, sat32_of_fits⟩, fun v _ _ h => ⟨rfl, clamp_bounds h v⟩, fun _ _ => rfl,
    fun _ _ => rfl⟩

/-! ## The datapath widths (40_pid.md R105) -/

/-- A bound on the factors bounds the rounded product, where the bound of the exact product is a multiple of 2^16. -/
theorem abs_fxmul_le {a b A B C : Int} (ha : |a| ≤ A) (hb : |b| ≤ B) (hC : A * B ≤ 65536 * C) : |fxmul a b| ≤ C := by
  have hprod : |a * b| ≤ 65536 * C := by
    rw [abs_mul]
    exact (mul_le_mul ha hb (abs_nonneg b) ((abs_nonneg a).trans ha)).trans hC
  obtain ⟨hlow, hhigh⟩ := abs_le.mp hprod
  rw [fxmul_eq_div]
  exact abs_le.mpr ⟨by omega, by omega⟩

/-- Rounded toward zero, a quotient by a positive divisor is no greater in magnitude than the scaled dividend. -/
theorem abs_fxdiv_le (a : Int) {d : Int} : |fxdiv a d| ≤ |a| * 65536 := by
  rw [fxdiv, truncDiv, Int.abs_eq_natAbs, Int.natAbs_tdiv, Int.natAbs_mul, Int.abs_eq_natAbs]
  exact_mod_cast Nat.div_le_self _ _

theorem abs_toInt_le (w : Word) : |w.toInt| ≤ 2 ^ 31 := by
  obtain ⟨hlow, hhigh⟩ := s32_bounds w
  rw [s32_eq_toInt] at hlow hhigh
  exact abs_le.mpr ⟨by omega, by omega⟩

theorem abs_pidError_le (b : AxisBank) : |pidError b| ≤ 2 ^ 31 := by
  obtain ⟨hlow, hhigh⟩ := sat32_bounds (errorDifference b)
  exact abs_le.mpr ⟨hlow, by unfold pidError; omega⟩

/-- The clamped integrator is one below the width of a register, because ILIM is. -/
theorem abs_pidIntegral_le (dt : Int) {b : AxisBank} (h : 0 ≤ b.ilim.toInt) : |pidIntegral dt b| ≤ 2 ^ 31 - 1 := by
  have hclamp : -s32 b.ilim ≤ pidIntegral dt b ∧ pidIntegral dt b ≤ s32 b.ilim := clamp_neg_bounds _ h
  have hmax := s32_bounds b.ilim
  exact abs_le.mpr ⟨by omega, by omega⟩

theorem abs_pidP_le (b : AxisBank) : |pidP b| ≤ 2 ^ 46 :=
  abs_fxmul_le (abs_pidError_le b) (abs_toInt_le b.kp) (by norm_num)

theorem abs_pidIout_le (dt : Int) {b : AxisBank} (h : 0 ≤ b.ilim.toInt) : |pidIout dt b| ≤ 2 ^ 46 - 2 ^ 15 :=
  abs_fxmul_le (abs_pidIntegral_le dt h) (abs_toInt_le b.ki) (by norm_num)

theorem abs_fxmul_dt_le {dt : Int} (hdt : 0 < dt) (hmax : dt ≤ 2 ^ 31 - 1) (b : AxisBank) :
    |fxmul dt (pidError b)| ≤ 2 ^ 46 - 2 ^ 15 :=
  abs_fxmul_le (abs_le.mpr ⟨by omega, hmax⟩) (abs_pidError_le b) (by norm_num)

/-- Both bounds on the difference are those of two registers, of which one is strict. -/
theorem abs_lasterr_sub_le (b : AxisBank) : |b.lasterr.toInt - pidError b| ≤ 2 ^ 32 - 1 := by
  obtain ⟨hlow, hhigh⟩ := s32_bounds b.lasterr
  obtain ⟨hlow', hhigh'⟩ := sat32_bounds (errorDifference b)
  simp only [s32_eq_toInt] at hlow hhigh
  exact abs_le.mpr ⟨by unfold pidError; omega, by unfold pidError; omega⟩

theorem abs_pidQuotient_le (dt : Int) (b : AxisBank) : |pidQuotient dt b| ≤ 2 ^ 48 - 2 ^ 16 := by
  calc |pidQuotient dt b| ≤ |b.lasterr.toInt - pidError b| * 65536 := abs_fxdiv_le _
    _ ≤ (2 ^ 32 - 1) * 65536 := mul_le_mul_of_nonneg_right (abs_lasterr_sub_le b) (by norm_num)
    _ = 2 ^ 48 - 2 ^ 16 := by norm_num

theorem abs_quotient_mul_kd_le (dt : Int) (b : AxisBank) : |pidQuotient dt b * b.kd.toInt| ≤ 2 ^ 79 - 2 ^ 47 := by
  rw [abs_mul]
  calc |pidQuotient dt b| * |b.kd.toInt| ≤ (2 ^ 48 - 2 ^ 16) * 2 ^ 31 :=
        mul_le_mul (abs_pidQuotient_le dt b) (abs_toInt_le b.kd) (abs_nonneg _) (by norm_num)
    _ = 2 ^ 79 - 2 ^ 47 := by norm_num

theorem abs_pidDout_le (dt : Int) (b : AxisBank) : |pidDout dt b| ≤ 2 ^ 63 - 2 ^ 31 :=
  abs_fxmul_le (abs_pidQuotient_le dt b) (abs_toInt_le b.kd) (by norm_num)

theorem setpointSum_bounds (b : AxisBank) : -2 ^ 32 ≤ setpointSum b ∧ setpointSum b < 2 ^ 32 := by
  have hdefsp := s32_bounds b.defsp
  have hsp := s32_bounds b.sp
  unfold setpointSum
  omega

theorem errorDifference_bounds (b : AxisBank) : -2 ^ 32 ≤ errorDifference b ∧ errorDifference b < 2 ^ 32 := by
  have hsp := sat32_bounds (setpointSum b)
  have hmeas := s32_bounds b.meas
  unfold errorDifference pidSetpoint
  omega

/-- The error and the gain that reach the corrected bound of p (log 10): DEFSP and KP at -2^31, all else 0. -/
def extremeBank : AxisBank := { AxisBank.reset with kp := 0x80000000, defsp := 0x80000000 }

/-- Settles O17: one bound for each intermediate value, and the bank that reaches that of p. -/
theorem datapathWidthsSuffice : Obligations.DatapathWidthsSuffice := by
  refine ⟨fun b dt hdt hmax hilim => ?_, extremeBank, by decide⟩
  have hp := abs_pidP_le b
  have hiout := abs_pidIout_le dt hilim
  have hstep := abs_fxmul_dt_le hdt hmax b
  have hiterm := abs_toInt_le b.iterm
  have hdout := abs_pidDout_le dt b
  refine ⟨setpointSum_bounds b, errorDifference_bounds b, hp, hiout.trans_lt (by norm_num), ?_,
    (abs_lasterr_sub_le b).trans_lt (by norm_num), (abs_pidQuotient_le dt b).trans_lt (by norm_num),
    (abs_quotient_mul_kd_le dt b).trans_lt (by norm_num), hdout.trans_lt (by norm_num), ?_⟩
  · calc |b.iterm.toInt + fxmul dt (pidError b)| ≤ |b.iterm.toInt| + |fxmul dt (pidError b)| := abs_add_le _ _
      _ ≤ 2 ^ 31 + (2 ^ 46 - 2 ^ 15) := add_le_add hiterm hstep
      _ < 2 ^ 47 := by norm_num
  · calc |commandSum dt b| ≤ |pidP b| + |pidIout dt b| + |pidDout dt b| := abs_add_three _ _ _
      _ ≤ 2 ^ 46 + (2 ^ 46 - 2 ^ 15) + (2 ^ 63 - 2 ^ 31) := add_le_add (add_le_add hp hiout) hdout
      _ < 2 ^ 64 := by norm_num

/-! ## What an update leaves in the bank (40_pid.md R101, R104) -/

theorem toInt_iterm_updatedBank (d : Bool) (dt : Int) {b : AxisBank} (h : 0 ≤ b.ilim.toInt) :
    (updatedBank d dt b).iterm.toInt = pidIntegral dt b :=
  toInt_pidIntegral dt b h

theorem toInt_pidout_updatedBank (d : Bool) (dt : Int) (b : AxisBank) :
    (updatedBank d dt b).pidout.toInt = pidCommand dt b :=
  toInt_ofS32_sat32 _

theorem toInt_lasterr_updatedBank (dt : Int) (b : AxisBank) : (updatedBank true dt b).lasterr.toInt = pidError b :=
  toInt_ofS32_sat32 _

theorem lasterr_updatedBank_legacy (dt : Int) (b : AxisBank) : (updatedBank false dt b).lasterr = b.lasterr := rfl

/-- R42: the integrator is stored as the clamp left it. -/
theorem iterm_within_limit (d : Bool) (dt : Int) {b : AxisBank} (h : 0 ≤ b.ilim.toInt) :
    -(updatedBank d dt b).ilim.toInt ≤ (updatedBank d dt b).iterm.toInt ∧
      (updatedBank d dt b).iterm.toInt ≤ (updatedBank d dt b).ilim.toInt := by
  rw [toInt_iterm_updatedBank d dt h]
  exact clamp_neg_bounds _ h

/-- The bank of the axis after an update. -/
theorem updateAxis_bank_self (a : Axis) (s : State) :
    (updateAxis a s).bank a = updatedBank s.dupd (s32 s.dt) (s.bank a) := by
  simp

/-! ## PID.UPDATE whose check passes (40_pid.md R101, R106) -/

theorem sameHidden_updateAxis (a : Axis) (s : State) : SameHidden s (updateAxis a s) :=
  (sameHidden_setBank s a _).trans (sameHidden_raiseWhen _ _ _ _)

theorem ovfExactlyWhen_updateAxis (a : Axis) (s : State) :
    OvfExactlyWhen (OutOfRange (setpointSum (s.bank a)) ∨ OutOfRange (errorDifference (s.bank a)) ∨
      OutOfRange (commandSum (s32 s.dt) (s.bank a))) (encode (.pidUpdate a)) s (updateAxis a s) :=
  ovfExactlyWhen_raiseWhen (pidSaturates_iff _ _) _ ⟨rfl, rfl, rfl⟩

/-- Settles O9: the command is one updated bank and then a possible OVF. -/
theorem pidUpdateComputesControlLaw : Obligations.PidUpdateComputesControlLaw := by
  intro a s hdt hilim reg dt sp err it raw
  have hcheck : pidCheckPasses s [a] = true := (pidCheckPasses_one s a).mpr ⟨hdt, hilim⟩
  have hexec := exec_pidUpdate_of_check hcheck
  refine ⟨updateAxis a s, hexec, ?_, ?_, fun hdupd => ?_, fun hdupd => ?_, ovfExactlyWhen_updateAxis a s, ?_,
    sameHidden_updateAxis a s⟩
  · rw [read_axis, updateAxis_bank_self]
    exact toInt_iterm_updatedBank _ _ hilim
  · rw [read_axis, updateAxis_bank_self]
    exact toInt_pidout_updatedBank _ _ _
  · rw [read_axis, updateAxis_bank_self, show s.dupd = true from hdupd]
    exact toInt_lasterr_updatedBank _ _
  · rw [read_axis, updateAxis_bank_self, show s.dupd = false from hdupd]
    exact lasterr_updatedBank_legacy _ _
  · refine (executed_of_exec hexec).keepsRegs.mono fun r ⟨hrecord, hiterm, hlasterr, hpidout⟩ => ⟨hrecord, ?_⟩
    rintro (h | h | ⟨h, -⟩)
    exacts [hiterm h, hpidout h, hlasterr h]

/-- R106: without error and integral, nothing is integrated. -/
theorem pidIntegral_eq_zero {dt : Int} {b : AxisBank} (herror : pidError b = 0) (hiterm : b.iterm = 0)
    (hilim : 0 ≤ b.ilim.toInt) : pidIntegral dt b = 0 := by
  have hstart : s32 b.iterm + fxmul dt (pidError b) = 0 := by
    rw [herror, hiterm, fxmul_eq_div, mul_zero]
    rfl
  rw [pidIntegral, hstart, clamp, s32_eq_toInt, min_eq_left hilim, max_eq_right (neg_nonpos.mpr hilim)]

/-- R106: with the last error at 0 too, all three terms of the command vanish. -/
theorem pidCommand_eq_zero {dt : Int} {b : AxisBank} (herror : pidError b = 0) (hiterm : b.iterm = 0)
    (hilim : 0 ≤ b.ilim.toInt) (hlasterr : b.lasterr = 0) : pidCommand dt b = 0 := by
  have hzero (x : Int) : fxmul 0 x = 0 := by
    rw [fxmul_eq_div, zero_mul]
    rfl
  have hp : pidP b = 0 := by rw [pidP, herror, hzero]
  have hi : pidIout dt b = 0 := by rw [pidIout, pidIntegral_eq_zero herror hiterm hilim, hzero]
  have hquotient : pidQuotient dt b = 0 := by
    rw [pidQuotient, herror, hlasterr]
    exact Int.zero_tdiv dt
  have hd : pidDout dt b = 0 := by rw [pidDout, hquotient, hzero]
  rw [pidCommand, commandSum, hp, hi, hd]
  rfl

/-- The setpoint on the measurement, without saturation, makes no error. -/
theorem pidError_eq_zero {b : AxisBank} (h : b.defsp.toInt + b.sp.toInt = b.meas.toInt) : pidError b = 0 := by
  have hmeas := s32_bounds b.meas
  have hsum : setpointSum b = s32 b.meas := h
  have hsetpoint : pidSetpoint b = s32 b.meas := by
    rw [pidSetpoint, hsum]
    exact sat32_of_fits (by unfold OutOfRange; omega)
  rw [pidError, errorDifference, hsetpoint, sub_self]
  rfl

/-- Settles O18. -/
theorem zeroErrorContributesNothing : Obligations.ZeroErrorContributesNothing := by
  intro a s hdt hilim htarget hiterm
  have hcheck : pidCheckPasses s [a] = true := (pidCheckPasses_one s a).mpr ⟨hdt, hilim⟩
  have herror : pidError (s.bank a) = 0 := pidError_eq_zero htarget
  refine ⟨updateAxis a s, exec_pidUpdate_of_check hcheck, ?_, fun hlasterr => ?_⟩
  · rw [read_axis, updateAxis_bank_self]
    exact congrArg ofS32 (pidIntegral_eq_zero herror hiterm hilim)
  · rw [read_axis, updateAxis_bank_self]
    exact congrArg ofS32 (pidCommand_eq_zero herror hiterm hilim hlasterr)

/-! ## TICK (42_controller.md R121) -/

theorem any_axis_iff (p : Axis → Bool) : Axis.all.any p = true ↔ ∃ a, p a = true := by
  have hall (a : Axis) : a ∈ Axis.all := by cases a <;> decide
  simp [List.any_eq_true, hall]

theorem tickSaturates_iff (s : State) :
    tickSaturates s = true ↔
      (∃ a, OutOfRange (setpointSum (s.bank a)) ∨ OutOfRange (errorDifference (s.bank a)) ∨
        OutOfRange (commandSum (s32 s.dt) (s.bank a))) ∨ ∃ i, OutOfRange (rowRounded s.matrix (tickOutputs s) i) := by
  simp only [tickSaturates, Bool.or_eq_true, any_axis_iff, pidSaturates_iff, mixSaturates_iff]

/-- Settles O14: the disabled tick writes zeros and checks nothing. -/
theorem disabledTickGoesNeutral : Obligations.DisabledTickGoesNeutral := by
  intro s hen
  refine ⟨_, exec_tick_disabled hen, fun i => ?_, fun a => ?_, keepsRegs_tickDisabled s, ⟨rfl, rfl, rfl, rfl, rfl, rfl, rfl⟩⟩
  · rw [read_act, tickDisabled_act, PerActuator.get_gen]
    rfl
  · rw [read_axis, tickDisabled_bank]
    rfl

theorem sameHidden_tickUpdate (w : Word) (s : State) : SameHidden s (tickUpdate w s) :=
  ((sameHidden_mapBanks s _).trans (sameHidden_setAct _ _)).trans (sameHidden_raiseWhen _ _ _ _)

/-- Settles O15: the command is four updated banks, the mixed outputs, and then a possible OVF. -/
theorem enabledTickUpdatesAndMixes : Obligations.EnabledTickUpdatesAndMixes := by
  intro s hen hdt hilim reg dt sp err it raw out row
  have hcheck : pidCheckPasses s Axis.all = true := (pidCheckPasses_all s).mpr ⟨hdt, hilim⟩
  have hrow : row = rowRounded s.matrix (tickOutputs s) := rfl
  refine ⟨_, exec_tick_enabled hen hcheck, fun a => ⟨?_, ?_⟩, fun hdupd a => ?_, fun hdupd a => ?_, fun i => ?_, ?_, ?_,
    sameHidden_tickUpdate _ s⟩
  · rw [read_axis, tickUpdate_bank]
    exact toInt_iterm_updatedBank _ _ (hilim a)
  · rw [read_axis, tickUpdate_bank]
    exact toInt_pidout_updatedBank _ _ _
  · rw [read_axis, tickUpdate_bank, show s.dupd = true from hdupd]
    exact toInt_lasterr_updatedBank _ _
  · rw [read_axis, tickUpdate_bank, show s.dupd = false from hdupd]
    exact lasterr_updatedBank_legacy _ _
  · rw [read_act, tickUpdate_act, PerActuator.get_gen, hrow]
    exact toInt_ofS32_sat32 _
  · rw [hrow]
    exact ovfExactlyWhen_raiseWhen (tickSaturates_iff s) _ ⟨rfl, rfl, rfl⟩
  · refine (keepsRegs_tickUpdate _ s).mono fun r ⟨hrecord, hact, hbank⟩ => ⟨hrecord, hact, fun a => ?_⟩
    obtain ⟨hiterm, hlasterr, hpidout⟩ := hbank a
    rintro (h | h | ⟨h, -⟩)
    exacts [hiterm h, hpidout h, hlasterr h]

/-- Settles O11: each updated bank holds its integrator as the clamp left it. -/
theorem integratorStaysWithinLimit : Obligations.IntegratorStaysWithinLimit := by
  refine ⟨fun a s t hdt hilim hexec => ?_, fun s t hen hdt hilim hexec a => ?_⟩
  · rw [exec_pidUpdate_of_check ((pidCheckPasses_one s a).mpr ⟨hdt, hilim⟩)] at hexec
    injection hexec with hexec
    rw [← hexec, read_axis, read_axis, updateAxis_bank_self]
    exact iterm_within_limit _ _ hilim
  · rw [exec_tick_enabled hen ((pidCheckPasses_all s).mpr ⟨hdt, hilim⟩)] at hexec
    injection hexec with hexec
    rw [← hexec, read_axis, read_axis, tickUpdate_bank]
    exact iterm_within_limit _ _ (hilim a)

/-! ## Scenario B (42_controller.md R123) -/

/-- Two banks that give an update the same inputs, up to a last error that a zero KD silences. -/
structure SameLaw (b c : AxisBank) : Prop where
  kp : c.kp = b.kp
  ki : c.ki = b.ki
  kd : c.kd = b.kd
  ilim : c.ilim = b.ilim
  defsp : c.defsp = b.defsp
  sp : c.sp = b.sp
  meas : c.meas = b.meas
  iterm : c.iterm = b.iterm
  lasterr : c.lasterr = b.lasterr ∨ b.kd = 0

theorem SameLaw.pidError_eq {b c : AxisBank} (h : SameLaw b c) : pidError c = pidError b := by
  simp only [pidError, errorDifference, pidSetpoint, setpointSum, h.defsp, h.sp, h.meas]

theorem SameLaw.pidIntegral_eq {b c : AxisBank} (h : SameLaw b c) (dt : Int) : pidIntegral dt c = pidIntegral dt b := by
  simp only [pidIntegral, h.pidError_eq, h.iterm, h.ilim]

theorem SameLaw.pidDout_eq {b c : AxisBank} (h : SameLaw b c) (dt : Int) : pidDout dt c = pidDout dt b := by
  rcases h.lasterr with hlasterr | hkd
  · simp only [pidDout, pidQuotient, h.pidError_eq, h.kd, hlasterr]
  · have hzero (x : Int) : fxmul x (s32 0) = 0 := by
      rw [fxmul_eq_div, show s32 0 = 0 from rfl, mul_zero]
      rfl
    rw [pidDout, pidDout, h.kd, hkd, hzero, hzero]

theorem SameLaw.pidCommand_eq {b c : AxisBank} (h : SameLaw b c) (dt : Int) : pidCommand dt c = pidCommand dt b := by
  simp only [pidCommand, commandSum, pidP, pidIout, h.pidError_eq, h.pidIntegral_eq, h.pidDout_eq, h.kp, h.ki]

/-- A run with no command and no Reset keeps the integrators at 0. -/
theorem iterm_zero_of_run {n : Nat} {t u : State} (hzero : ∀ a, t.read (.axis a .iterm) = 0)
    (hquiet : ∀ k < n, ∀ v, runSteps k t = .next v → v.upcoming ≠ some .reset ∧ ∀ i, ¬issues i v)
    (hrun : runSteps n t = .next u) (a : Axis) : u.read (.axis a .iterm) = 0 := by
  refine runSteps_keeps (P := fun v => ∀ a, v.read (.axis a .iterm) = 0) ?_ hzero hquiet hrun a
  rintro v v' ⟨hreset, hcommands⟩ hzero hstep a
  refine (step_keepsRegs hstep hreset _ ⟨id, fun hwrites => ?_⟩).trans (hzero a)
  rcases issues_of_stepWrites_iterm hwrites with h | h | h | h <;> exact hcommands _ h

/-- Settles O19: the integrators are 0 as in the fresh block, and the last error either is too or is silenced. -/
theorem reenabledTickIsFresh : Obligations.ReenabledTickIsFresh := by
  intro s t u fresh n hdisabled htick hquiet hrun hen hdt hilim hsilent hfreshEn hfresh hsame
  have hcleared : ∀ a, t.read (.axis a .iterm) = 0 := by
    rw [exec_tick_disabled hdisabled] at htick
    injection htick with htick
    intro a
    rw [← htick, read_axis, tickDisabled_bank]
    rfl
  have hzero := iterm_zero_of_run hcleared hquiet hrun
  have hdtEq : fresh.dt = u.dt := hsame .dt trivial
  have hmatrix : fresh.matrix = u.matrix :=
    PerActuator.ext_get fun i => PerAxis.ext_get fun j => hsame (.m i j) trivial
  have hlaw (a : Axis) : SameLaw (u.bank a) (fresh.bank a) := by
    have hreg (x : AxisReg) (hx : readByTick (.axis a x)) : (fresh.bank a).read x = (u.bank a).read x := hsame (.axis a x) hx
    obtain ⟨hfreshIterm, hfreshLasterr⟩ := hfresh a
    exact
      { kp := hreg .kp (by simp [readByTick])
        ki := hreg .ki (by simp [readByTick])
        kd := hreg .kd (by simp [readByTick])
        ilim := hreg .ilim (by simp [readByTick])
        defsp := hreg .defsp (by simp [readByTick])
        sp := hreg .sp (by simp [readByTick])
        meas := hreg .meas (by simp [readByTick])
        iterm := hfreshIterm.trans (hzero a).symm
        lasterr := (hsilent a).imp_left fun h => hfreshLasterr.trans h.symm }
  have hcheck : pidCheckPasses u Axis.all = true := (pidCheckPasses_all u).mpr ⟨hdt, hilim⟩
  have hfreshCheck : pidCheckPasses fresh Axis.all = true :=
    (pidCheckPasses_all fresh).mpr ⟨hdtEq ▸ hdt, fun a => (hlaw a).ilim ▸ hilim a⟩
  have houtputs : tickOutputs fresh = tickOutputs u := by
    refine PerAxis.ext_get fun a => ?_
    simp only [tickOutputs, PerAxis.get_gen, hdtEq, (hlaw a).pidCommand_eq]
  refine ⟨_, _, exec_tick_enabled hen hcheck, exec_tick_enabled hfreshEn hfreshCheck, fun a => ⟨?_, ?_⟩, fun i => ?_⟩
  · simp only [read_axis, tickUpdate_bank, bank_read_iterm, updatedBank, hdtEq, (hlaw a).pidIntegral_eq]
  · simp only [read_axis, tickUpdate_bank, bank_read_pidout, updatedBank, hdtEq, (hlaw a).pidCommand_eq]
  · simp only [read_act, tickUpdate_act, houtputs, hmatrix]

end Sys2Proof.Machine
end

section
/-! PROOFS. The statements of 43_decoder.md on the byte step and on whole frames: storing and scanning (R131, R134), the enable
test (R139), a receiver without a header (R142), the round trip of a frame (30_encoding.md R83, R84) and the resync property
(R144). -/

namespace Sys2Proof.Machine

/-! ## The enable test (43_decoder.md R139) -/

theorem normalise_gt_iff (c : Chan) : 39321 < normalise c ↔ 1801 ≤ c.toNat := by
  rw [normalise_eq_tdiv]
  rcases le_or_gt 1500 c.toNat with hc | hc
  · rw [Int.tdiv_eq_ediv_of_nonneg (by omega)]
    omega
  · have hneg : (((c.toNat : Int) - 1500) * 2 ^ 16).tdiv 500 ≤ 0 :=
      neg_nonneg.mp (Int.neg_tdiv _ _ ▸ Int.tdiv_nonneg (by omega) (by decide))
    omega

theorem real_threshold_iff (n : Nat) : 1801 ≤ n ↔ (3 / 5 : ℚ) < ((n : ℚ) - 1500) / 500 := by
  rw [lt_div_iff₀ (by norm_num), lt_sub_iff_add_lt]
  have hthreshold : (3 / 5 : ℚ) * 500 + 1500 = (1800 : Nat) := by norm_num
  rw [hthreshold, Nat.cast_lt]
  exact Iff.rfl

theorem enables_iff (c : Chan) : enables c = true ↔ 1801 ≤ c.toNat :=
  decide_eq_true_iff.trans (normalise_gt_iff c)

/-- Settles O26. -/
theorem enableThresholdIsExact : Obligations.EnableThresholdIsExact :=
  ⟨fun c => ⟨decide_eq_true_iff, normalise_gt_iff c, real_threshold_iff c.toNat⟩, by decide, by decide⟩

/-! ## One byte (43_decoder.md R131, R134, R142) -/

theorem storeByte_cnt_val {s : State} (hcnt : s.cnt ≠ 31) (b : Byte) : (storeByte b s).cnt.val = s.cnt.val + 1 :=
  Fin.val_add_one_of_lt' (by omega)

/-- Settles O27. -/
theorem alignedByteIsStored : Obligations.AlignedByteIsStored := by
  intro b s hmode hcnt t
  have ht : t = storeByte b s := rxByte_stored hmode hcnt
  rw [ht]
  exact ⟨rfl, storeByte_cnt_val hcnt b, hmode, keepsRegs_storeByte b s, rfl, rfl, rfl, rfl⟩

/-- The scan shows in DEC_STATE alone. -/
theorem Received.keepsRegs_of_scan {b : Byte} {s t : State} (h : Received b s t) (hmode : s.mode ≠ .aligned) :
    KeepsRegs (fun r => r ≠ .decState) s t := by
  cases h with
  | stored m | mismatch m | badChecksum m | published m => exact absurd m hmode
  | scanHit | headerLost => exact keepsRegs_setMode s _
  | scanMiss | headerRepeat => exact fun _ _ => rfl
  | headerFound => exact keepsRegs_startFrame s

/-- Settles O31: the branches of the two scan modes. -/
theorem scanFindsHeaderPair : Obligations.ScanFindsHeaderPair := by
  intro b s hmode t
  refine ⟨(rxByte_received b s).keepsRegs_of_scan hmode, fun hscan => ?_, fun hscan => ⟨fun hb => ?_, fun hb1 => ?_⟩⟩
  · by_cases hb : b = s.h0
    · have ht : t = { s with mode := .scan1 } := rxByte_scanHit hscan hb
      rw [ht]
      exact ⟨fun _ => rfl, fun hne => absurd hb hne, rfl, rfl⟩
    · have ht : t = s := rxByte_scanMiss hscan hb
      rw [ht]
      exact ⟨fun heq => absurd heq hb, fun _ => hscan, rfl, rfl⟩
  · have ht : t = startFrame s := rxByte_headerFound hscan hb
    rw [ht]
    exact ⟨rfl, rfl, by simp, by simp⟩
  · by_cases hb0 : b = s.h0
    · have ht : t = s := rxByte_headerRepeat hscan hb1 hb0
      rw [ht]
      exact ⟨rfl, rfl, fun _ => hscan, fun hne => absurd hb0 hne⟩
    · have ht : t = { s with mode := .scan0 } := rxByte_headerLost hscan hb1 hb0
      rw [ht]
      exact ⟨rfl, rfl, fun heq => absurd heq hb0, fun _ => rfl⟩

/-- Without a header the mismatch is the one outcome of an aligned byte that is excluded. -/
theorem Received.no_resync {b : Byte} {s t : State} (h : Received b s t) (hmode : s.mode = .aligned) (hheader : s.hdrEn = false) :
    t.mode = .aligned ∧ t.resyncs = s.resyncs ∧ t.status.getLsbD 8 = s.status.getLsbD 8 := by
  cases h with
  | stored => exact ⟨hmode, rfl, rfl⟩
  | mismatch _ _ hbad =>
    rw [headerBad, storeByte_hdrEn, hheader, Bool.false_and] at hbad
    cases hbad
  | badChecksum =>
    refine ⟨hmode, rfl, ?_⟩
    rw [checksumFail_status, storeByte_status, getLsbD_or_bitWord _ _ (by decide)]
    exact Bool.or_false _
  | published =>
    refine ⟨(publish_mode _ _).trans hmode, publish_resyncs _ _, ?_⟩
    rw [getLsbD_status_publish_of_ne _ _ (by decide) (by decide), storeByte_status]
    exact Bool.or_false _
  | scanHit m | scanMiss m | headerFound m | headerRepeat m | headerLost m =>
    rw [hmode] at m
    cases m

/-- Settles O35. -/
theorem noHeaderNeverResyncs : Obligations.NoHeaderNeverResyncs :=
  fun b s hmode hheader => (rxByte_received b s).no_resync hmode hheader

/-! ## The bytes of a valid frame (30_encoding.md R82, R83, R84) -/

/-- The two bytes of a word, in their order of arrival, are read back as the word. -/
theorem exists_wordBytes (be : Bool) (c : Chan) : ∃ x y, wordBytes be c = [x, y] ∧ frameWord be x y = c := by
  have hjoin : (c.extractLsb' 8 8 ++ c.extractLsb' 0 8 : BitVec 16) = c := by
    have hlt := c.isLt
    apply BitVec.eq_of_toNat_eq
    rw [toNat_append_bytes, BitVec.extractLsb'_toNat, BitVec.extractLsb'_toNat, Nat.shiftRight_eq_div_pow, Nat.shiftRight_zero]
    omega
  cases be with
  | true => exact ⟨_, _, rfl, hjoin⟩
  | false => exact ⟨_, _, rfl, hjoin⟩

theorem length_wordBytes (be : Bool) (c : Chan) : (wordBytes be c).length = 2 := by
  cases be <;> rfl

/-- In the bytes of a list of words, word k is at bytes 2k and 2k+1. -/
theorem getElem?_flatMap_wordBytes (be : Bool) (l : List Chan) (k : Nat) (hk : k < l.length) :
    ∃ x y, (l.flatMap (wordBytes be))[2 * k]? = some x ∧ (l.flatMap (wordBytes be))[2 * k + 1]? = some y ∧
      frameWord be x y = l[k] := by
  induction l generalizing k with
  | nil => exact absurd hk (Nat.not_lt_zero k)
  | cons c l ih =>
    obtain ⟨x, y, hbytes, hword⟩ := exists_wordBytes be c
    rw [List.flatMap_cons, hbytes]
    cases k with
    | zero => exact ⟨x, y, rfl, rfl, hword⟩
    | succ k => exact ih k (Nat.lt_of_succ_lt_succ hk)

theorem length_frameBody (h0 h1 : Byte) (be : Bool) (ch : Vector Chan 14) : (frameBody h0 h1 be ch).length = 30 := by
  simp [frameBody, List.length_flatMap, length_wordBytes]

theorem length_frameBytes (h0 h1 : Byte) (be : Bool) (ch : Vector Chan 14) : (frameBytes h0 h1 be ch).length = 32 := by
  rw [frameBytes, List.length_append, length_frameBody, length_wordBytes]

section
variable {h0 h1 : Byte} {be : Bool} {ch : Vector Chan 14} {v : Vector Byte 32}

theorem getElem_eq_of_toList_getElem? {i : Nat} (hi : i < 32) {x : Byte} (h : v.toList[i]? = some x) : v[i] = x := by
  obtain ⟨_, hget⟩ := List.getElem?_eq_some_iff.mp h
  rwa [Vector.getElem_toList] at hget

theorem header_of_frameBytes (h : v.toList = frameBytes h0 h1 be ch) : v[0] = h0 ∧ v[1] = h1 :=
  ⟨getElem_eq_of_toList_getElem? (by decide) (h ▸ rfl), getElem_eq_of_toList_getElem? (by decide) (h ▸ rfl)⟩

theorem channelWords_of_frameBytes (h : v.toList = frameBytes h0 h1 be ch) : channelWords be v = ch := by
  refine Vector.ext fun k hk => ?_
  obtain ⟨x, y, hx, hy, hword⟩ := getElem?_flatMap_wordBytes be ch.toList k (by simpa using hk)
  have hbytes (i : Nat) (z : Byte) (hz : (ch.toList.flatMap (wordBytes be))[i]? = some z) : v.toList[2 + i]? = some z := by
    obtain ⟨hi, -⟩ := List.getElem?_eq_some_iff.mp hz
    rw [h, frameBytes, frameBody, Nat.add_comm, List.cons_append, List.getElem?_cons_succ, List.cons_append,
      List.getElem?_cons_succ, List.getElem?_append_left hi, hz]
  have hfirst := getElem_eq_of_toList_getElem? (by omega) (hbytes _ x hx)
  have hindex : 2 + (2 * k + 1) = 3 + 2 * k := by omega
  have hsecond := getElem_eq_of_toList_getElem? (by omega) (hindex ▸ hbytes _ y hy)
  have hread : (channelWords be v)[k] = frameWord be v[2 + 2 * k] v[3 + 2 * k] := getElem_channelWords be v ⟨k, hk⟩
  rw [Vector.getElem_toList] at hword
  rw [hread, hfirst, hsecond, hword]

theorem checksumOk_of_frameBytes (h : v.toList = frameBytes h0 h1 be ch) : checksumOk be v = true := by
  obtain ⟨x, y, hbytes, hword⟩ := exists_wordBytes be (bodyChecksum (frameBody h0 h1 be ch))
  rw [frameBytes, hbytes] at h
  have hlength := length_frameBody h0 h1 be ch
  have hsum : byteSum v = ((frameBody h0 h1 be ch).map BitVec.toNat).sum := by
    rw [← sum_take_toList, h, ← hlength, List.take_left]
  have hx : v[30] = x := getElem_eq_of_toList_getElem? (by decide) (by
    rw [h, List.getElem?_append_right hlength.le, hlength]
    rfl)
  have hy : v[31] = y := getElem_eq_of_toList_getElem? (by decide) (by
    rw [h, List.getElem?_append_right (by omega), hlength]
    rfl)
  rw [checksumOk_iff, hx, hy, hword, bodyChecksum, hsum, BitVec.toNat_ofNat]
  omega

end

/-! ## Runs that show nothing new (43_decoder.md R137) -/

theorem runSteps_add {m : Nat} (n : Nat) {s t : State} (h : runSteps m s = .next t) : runSteps (m + n) s = runSteps n t := by
  induction m generalizing s with
  | zero =>
    injection h with h
    rw [h, Nat.zero_add]
  | succ m ih =>
    obtain ⟨u, hstep, hrun⟩ := runSteps_succ_inv h
    rw [Nat.add_right_comm, runSteps_succ _ hstep, ih hrun]

/-- A run whose every state shows the setpoints, the enable flag and the channels of the first. -/
def QuietRun (n : Nat) (s t : State) : Prop :=
  runSteps n s = .next t ∧ ∀ k ≤ n, ∀ u, runSteps k s = .next u → SamePublished s u

theorem SamePublished.trans {s t u : State} (h : SamePublished s t) (k : SamePublished t u) : SamePublished s u := by
  obtain ⟨hch, hinputs, hframes, hsp⟩ := h
  obtain ⟨kch, kinputs, kframes, ksp⟩ := k
  exact ⟨kch.trans hch, kinputs.trans hinputs, kframes.trans hframes, fun a => (ksp a).trans (hsp a)⟩

theorem quietRun_zero (s : State) : QuietRun 0 s s := by
  refine ⟨rfl, fun k hk u hu => ?_⟩
  obtain rfl := Nat.le_zero.mp hk
  injection hu with hu
  exact hu ▸ ⟨rfl, rfl, rfl, fun _ => rfl⟩

theorem QuietRun.samePublished {n : Nat} {s t : State} (h : QuietRun n s t) : SamePublished s t :=
  h.2 n le_rfl t h.1

theorem QuietRun.trans {m n : Nat} {s t u : State} (h : QuietRun m s t) (k : QuietRun n t u) : QuietRun (m + n) s u := by
  refine ⟨(runSteps_add n h.1).trans k.1, fun j hj v hv => ?_⟩
  rcases le_or_gt j m with hle | hgt
  · exact h.2 j hle v hv
  · obtain ⟨i, rfl⟩ := Nat.exists_eq_add_of_le hgt.le
    rw [runSteps_add i h.1] at hv
    exact h.samePublished.trans (k.2 i (by omega) v hv)

theorem quietRun_one {s t : State} (hstep : step s = .next t) (hsame : SamePublished s t) : QuietRun 1 s t := by
  have hrun : runSteps 1 s = .next t := runSteps_succ 0 hstep
  refine ⟨hrun, fun k hk u hu => ?_⟩
  obtain rfl | rfl : k = 0 ∨ k = 1 := by omega
  · exact (quietRun_zero s).2 0 le_rfl u hu
  · rw [hrun] at hu
    injection hu with hu
    exact hu ▸ hsame

/-! ## Collecting a frame (43_decoder.md R131) -/

/-- What receiving reads of the state beside the decoder, and what a publication shows, is unchanged. -/
structure SameContext (s u : State) : Prop where
  seenReset : u.seenReset = s.seenReset
  ctrl : u.ctrl = s.ctrl
  hdr : u.hdr = s.hdr
  chmap : u.chmap = s.chmap
  axes : u.axes = s.axes
  ch : u.ch = s.ch
  inputs : u.inputs = s.inputs
  framesOk : u.framesOk = s.framesOk

theorem sameContext_refl (s : State) : SameContext s s := ⟨rfl, rfl, rfl, rfl, rfl, rfl, rfl, rfl⟩

theorem SameContext.trans {s t u : State} (h : SameContext s t) (k : SameContext t u) : SameContext s u :=
  { seenReset := k.seenReset.trans h.seenReset
    ctrl := k.ctrl.trans h.ctrl
    hdr := k.hdr.trans h.hdr
    chmap := k.chmap.trans h.chmap
    axes := k.axes.trans h.axes
    ch := k.ch.trans h.ch
    inputs := k.inputs.trans h.inputs
    framesOk := k.framesOk.trans h.framesOk }

theorem SameContext.samePublished {s u : State} (h : SameContext s u) : SamePublished s u :=
  ⟨h.ch, h.inputs, h.framesOk, fun a => congrArg (fun p : PerAxis AxisBank => (p.get a).sp) h.axes⟩

theorem SameContext.h0_eq {s u : State} (h : SameContext s u) : u.h0 = s.h0 := by rw [State.h0, h.hdr, State.h0]

theorem SameContext.h1_eq {s u : State} (h : SameContext s u) : u.h1 = s.h1 := by rw [State.h1, h.hdr, State.h1]

theorem SameContext.be_eq {s u : State} (h : SameContext s u) : u.be = s.be := by rw [State.be, h.ctrl, State.be]

theorem SameContext.hdrEn_eq {s u : State} (h : SameContext s u) : u.hdrEn = s.hdrEn := by
  rw [State.hdrEn, h.ctrl, State.hdrEn]

theorem SameContext.scaledSetpoint_eq {s u : State} (h : SameContext s u) (ch : Vector Chan 14) (a : Axis) :
    scaledSetpoint u ch a = scaledSetpoint s ch a := by
  simp only [scaledSetpoint, State.bank, h.chmap, h.axes]

/-- The counters of refused frames are unchanged. -/
def SameErrorCounters (s t : State) : Prop := t.csumErrs = s.csumErrs ∧ t.resyncs = s.resyncs

theorem SameErrorCounters.trans {s t u : State} (h : SameErrorCounters s t) (k : SameErrorCounters t u) :
    SameErrorCounters s u :=
  ⟨k.1.trans h.1, k.2.trans h.2⟩

/-- The arrivals that present these bytes on the rx port. -/
def byteArrivals (bytes : List Byte) : List Arrival := (bytes.map Event.rxByte).map .one

/-- From the state `s` on, the decoder holds the bytes `held` of an aligned frame, and the bytes `rest` are to come. -/
structure Holding (s : State) (held rest : List Byte) (u : State) : Prop where
  context : SameContext s u
  counters : SameErrorCounters s u
  mode : u.mode = .aligned
  cnt : u.cnt.val = held.length
  bytes : u.buf.toList.take held.length = held
  arrivals : u.arrivals = byteArrivals rest

/-- The state in which the next byte is received: its arrival is taken and no bus response is left. -/
def State.awaiting (s : State) (rest : List Byte) : State := { s with arrivals := byteArrivals rest, readData := none }

theorem sameContext_awaiting (s : State) (rest : List Byte) : SameContext s (s.awaiting rest) :=
  ⟨rfl, rfl, rfl, rfl, rfl, rfl, rfl, rfl⟩

theorem step_byte {s : State} {b : Byte} {rest : List Byte} (hseen : s.seenReset = true)
    (h : s.arrivals = byteArrivals (b :: rest)) : step s = .next (rxByte b (s.awaiting rest)) :=
  step_one_rxByte hseen h

theorem take_succ_set (l : List Byte) {n : Nat} (hn : n < l.length) (b : Byte) :
    (l.set n b).take (n + 1) = l.take n ++ [b] := by
  rw [List.take_succ_eq_append_getElem (by simpa using hn), List.take_set_of_le le_rfl, List.getElem_set_self]

theorem take_two_set_set (l : List Byte) (hl : 2 ≤ l.length) (a b : Byte) : ((l.set 0 a).set 1 b).take 2 = [a, b] := by
  rw [take_succ_set _ (by rwa [List.length_set]), take_succ_set _ (by omega), List.take_zero]
  rfl

section
variable {s u : State} {held rest : List Byte} {b : Byte}

/-- The stored byte is held after those before it. -/
theorem Holding.take_storeByte (h : Holding s held (b :: rest) u) (hlt : held.length < 32) :
    (storeByte b (u.awaiting rest)).buf.toList.take (held.length + 1) = held ++ [b] := by
  have hbuf : (storeByte b (u.awaiting rest)).buf.toList = u.buf.toList.set held.length b := by
    rw [storeByte_buf, Vector.toList_set]
    exact congrArg (fun n => u.buf.toList.set n b) h.cnt
  rw [hbuf, take_succ_set _ (by simpa using hlt), h.bytes]

theorem Holding.next (h : Holding s held (b :: rest) u) (hseen : s.seenReset = true) (hlt : held.length < 31) :
    ∃ v, QuietRun 1 u v ∧ Holding s (held ++ [b]) rest v := by
  have hcnt : u.cnt ≠ 31 := fun heq => by
    have hval := congrArg Fin.val heq
    rw [h.cnt] at hval
    exact hlt.ne hval
  have hstep := step_byte (h.context.seenReset.trans hseen) h.arrivals
  rw [rxByte_stored (s := u.awaiting rest) h.mode hcnt] at hstep
  have hcontext : SameContext u (storeByte b (u.awaiting rest)) := ⟨rfl, rfl, rfl, rfl, rfl, rfl, rfl, rfl⟩
  refine ⟨_, quietRun_one hstep hcontext.samePublished, ?_⟩
  exact
    { context := h.context.trans hcontext
      counters := h.counters
      mode := h.mode
      cnt := by 
        rw [storeByte_cnt_val (s := u.awaiting rest) hcnt, List.length_append]
        exact congrArg (· + 1) h.cnt
      bytes := by
        rw [List.length_append]
        exact h.take_storeByte (by omega)
      arrivals := rfl }

/-- Up to 31 bytes are collected one by one. -/
theorem Holding.collect (more : List Byte) (h : Holding s held (more ++ rest) u) (hseen : s.seenReset = true)
    (hle : held.length + more.length ≤ 31) : ∃ v, QuietRun more.length u v ∧ Holding s (held ++ more) rest v := by
  induction more generalizing held u with
  | nil => exact ⟨u, quietRun_zero u, by rwa [List.append_nil]⟩
  | cons b more ih =>
    rw [List.length_cons] at hle
    obtain ⟨w, hfirst, hw⟩ := h.next hseen (by omega)
    obtain ⟨v, hmore, hv⟩ := ih hw (by rw [List.length_append, List.length_singleton]; omega)
    refine ⟨v, ?_, by rwa [List.append_assoc] at hv⟩
    rw [List.length_cons, Nat.add_comm]
    exact hfirst.trans hmore

/-- With the 32nd byte the frame is complete. -/
theorem Holding.last (h : Holding s held (b :: rest) u) (hseen : s.seenReset = true) (hlength : held.length = 31) :
    step u = .next (rxByte b (u.awaiting rest)) ∧ lastByteDue (u.awaiting rest) ∧
      ((u.awaiting rest).frameWith b).toList = held ++ [b] := by
  have hlast : lastByteDue (u.awaiting rest) := ⟨h.mode, Fin.ext (h.cnt.trans hlength)⟩
  refine ⟨step_byte (h.context.seenReset.trans hseen) h.arrivals, hlast, ?_⟩
  have htake := h.take_storeByte (by omega)
  rwa [storeByte_buf_last hlast, hlength, List.take_of_length_le (by simp)] at htake

end

/-! ## The round trip of a frame (30_encoding.md R83, R84; 43_decoder.md R136) -/

/-- The channels are published from the state `s`: CH, FRAMES_OK, SP and EN, with the decoder before a new frame. -/
structure PublishedFrom (s : State) (ch : Vector Chan 14) (t : State) : Prop where
  channels : t.ch = ch
  framesOk : t.framesOk = s.framesOk + 1
  mode : t.mode = .aligned
  cnt : t.cnt = 0
  setpoints : ∀ a, (t.read (.axis a .sp)).toInt = sat32 (scaledSetpoint s ch a)
  enable : t.en = enables ch[s.chmap.ench]

theorem getLsbD_inputsWord (p : Bool) : (inputsWord p).getLsbD 0 = p := by
  cases p <;> rfl

/-- The 32nd byte of a valid frame publishes its channels. -/
theorem publishedFrom_rxByte {w : State} {b : Byte} {ch : Vector Chan 14} (hlast : lastByteDue w)
    (hframe : (w.frameWith b).toList = frameBytes w.h0 w.h1 w.be ch) :
    PublishedFrom w ch (rxByte b w) ∧ SameErrorCounters w (rxByte b w) := by
  have hwords : channelWords (storeByte b w).be (storeByte b w).buf = ch := by
    rw [storeByte_buf_last hlast, storeByte_be, channelWords_of_frameBytes hframe]
  rw [rxByte_publish hlast (fun _ => header_of_frameBytes hframe) (checksumOk_of_frameBytes hframe)]
  refine ⟨?_, publish_csumErrs _ _, publish_resyncs _ _⟩
  exact
    { channels := by rw [publish_ch, hwords]
      framesOk := publish_framesOk _ _
      mode := (publish_mode _ _).trans hlast.1
      cnt := (publish_cnt _ _).trans (storeByte_cnt_last hlast b)
      setpoints := fun a => by
        rw [read_axis, publish_bank, hwords]
        exact toInt_ofS32_sat32 _
      enable := by
        rw [State.en, publish_inputs, hwords]
        exact getLsbD_inputsWord _ }

theorem SameContext.publishedFrom {s w t : State} {ch : Vector Chan 14} (h : SameContext s w) (ht : PublishedFrom w ch t) :
    PublishedFrom s ch t :=
  { channels := ht.channels
    framesOk := h.framesOk ▸ ht.framesOk
    mode := ht.mode
    cnt := ht.cnt
    setpoints := fun a => h.scaledSetpoint_eq ch a ▸ ht.setpoints a
    enable := by
      rw [ht.enable]
      simp only [h.chmap] }

/-- The bytes that complete a valid frame are received in silence up to the last, which publishes. -/
theorem Holding.receive_frame {s u : State} {held rest : List Byte} {ch : Vector Chan 14} (h : Holding s held rest u)
    (hseen : s.seenReset = true) (hframe : held ++ rest = frameBytes s.h0 s.h1 s.be ch) (hheld : held.length ≤ 31) :
    ∃ v t, QuietRun (31 - held.length) u v ∧ step v = .next t ∧ PublishedFrom s ch t ∧ SameErrorCounters s t := by
  have hlength := congrArg List.length hframe
  rw [List.length_append, length_frameBytes] at hlength
  obtain rfl | ⟨more, b, rfl⟩ := rest.eq_nil_or_concat
  · rw [List.length_nil] at hlength
    omega
  rw [List.concat_eq_append, List.length_append, List.length_singleton] at hlength
  rw [List.concat_eq_append] at h hframe
  obtain ⟨v, hrun, hv⟩ := h.collect more hseen (by omega)
  obtain ⟨hstep, hlast, hbytes⟩ := hv.last hseen (by rw [List.length_append]; omega)
  have hcontext := hv.context.trans (sameContext_awaiting v [])
  rw [List.append_assoc, hframe, ← hcontext.h0_eq, ← hcontext.h1_eq, ← hcontext.be_eq] at hbytes
  obtain ⟨hpublished, hcounters⟩ := publishedFrom_rxByte hlast hbytes
  rw [show more.length = 31 - held.length by omega] at hrun
  exact ⟨v, _, hrun, hstep, hcontext.publishedFrom hpublished, hv.counters.trans hcounters⟩

theorem holding_receiving {s : State} (hmode : s.mode = .aligned) (hcnt : s.cnt = 0) (bytes : List Byte) :
    Holding s [] bytes (s.receiving bytes) :=
  { context := ⟨rfl, rfl, rfl, rfl, rfl, rfl, rfl, rfl⟩
    counters := ⟨rfl, rfl⟩
    mode := hmode
    cnt := congrArg Fin.val hcnt
    bytes := rfl
    arrivals := rfl }

/-- The setpoints and the enable flag in the terms of the statements. -/
theorem PublishedFrom.setpoints_enable {s t : State} {ch : Vector Chan 14} (h : PublishedFrom s ch t) :
    (∀ a, (t.read (.axis a .sp)).toInt =
      sat32 (fxmul (normalise ch[s.designated (chmapPlace a)]) (s.read (.axis a .sens)).toInt)) ∧
    (t.en = true ↔ 1801 ≤ (ch[s.designated enchPlace]).toNat) := by
  refine ⟨fun a => ?_, ?_⟩
  · rw [h.setpoints a, scaledSetpoint_eq]
  · rw [h.enable, enables_iff]
    simp only [designated_enchPlace]

theorem QuietRun.succ {n : Nat} {s v t : State} (h : QuietRun n s v) (hstep : step v = .next t) :
    runSteps (n + 1) s = .next t :=
  (runSteps_add 1 h.1).trans (runSteps_succ 0 hstep)

/-- Settles O33. -/
theorem frameRoundTrip : Obligations.FrameRoundTrip := by
  intro s ch hseen hmode hcnt
  obtain ⟨v, t, hrun, hstep, ht, hcsum, hresyncs⟩ :=
    (holding_receiving hmode hcnt _).receive_frame hseen (ch := ch) rfl (Nat.zero_le 31)
  obtain ⟨hsetpoints, henable⟩ := ht.setpoints_enable
  exact ⟨t, hrun.succ hstep, ht.channels, ht.framesOk, hcsum, hresyncs, ht.mode, ht.cnt, hsetpoints, henable⟩

/-! ## The resync property (43_decoder.md R144) -/

theorem sameContext_headerMismatch (b : Byte) (s : State) : SameContext s (headerMismatch (storeByte b s)) :=
  ⟨rfl, rfl, rfl, rfl, rfl, rfl, rfl, rfl⟩

theorem sameContext_checksumFail (b : Byte) (s : State) : SameContext s (checksumFail (storeByte b s)) :=
  ⟨rfl, rfl, rfl, rfl, rfl, rfl, rfl, rfl⟩

/-- After a bad checksum the decoder stands aligned before the next frame. -/
theorem receive_frame_after_badChecksum {w : State} {b : Byte} {ch : Vector Chan 14} (hseen : w.seenReset = true)
    (hlast : lastByteDue w) (harrivals : w.arrivals = byteArrivals (frameBytes w.h0 w.h1 w.be ch)) :
    ∃ v t, QuietRun 31 (checksumFail (storeByte b w)) v ∧ step v = .next t ∧
      PublishedFrom (checksumFail (storeByte b w)) ch t ∧ SameErrorCounters (checksumFail (storeByte b w)) t := by
  have hholding : Holding (checksumFail (storeByte b w)) [] (frameBytes w.h0 w.h1 w.be ch) (checksumFail (storeByte b w)) :=
    { context := sameContext_refl _
      counters := ⟨rfl, rfl⟩
      mode := hlast.1
      cnt := congrArg Fin.val (storeByte_cnt_last hlast b)
      bytes := rfl
      arrivals := harrivals }
  exact hholding.receive_frame hseen rfl (Nat.zero_le 31)

/-- R134: the scan takes the two header bytes, and the frame goes on from byte 2. -/
theorem holding_header_of_scan {s : State} {rest : List Byte} (hseen : s.seenReset = true) (hmode : s.mode = .scan0)
    (harrivals : s.arrivals = byteArrivals (s.h0 :: s.h1 :: rest)) :
    ∃ v, QuietRun 2 s v ∧ Holding s [s.h0, s.h1] rest v := by
  have hfirst := step_byte hseen harrivals
  rw [rxByte_scanHit (b := s.h0) (s := s.awaiting (s.h1 :: rest)) hmode rfl] at hfirst
  have hcontext : SameContext s { s.awaiting (s.h1 :: rest) with mode := .scan1 } := ⟨rfl, rfl, rfl, rfl, rfl, rfl, rfl, rfl⟩
  have hsecond := step_byte (s := { s.awaiting (s.h1 :: rest) with mode := .scan1 }) hseen rfl
  rw [rxByte_headerFound (by rfl) (by rfl)] at hsecond
  have hcontext' : SameContext { s.awaiting (s.h1 :: rest) with mode := .scan1 }
      (startFrame (State.awaiting { s.awaiting (s.h1 :: rest) with mode := .scan1 } rest)) :=
    ⟨rfl, rfl, rfl, rfl, rfl, rfl, rfl, rfl⟩
  refine ⟨_, (quietRun_one hfirst hcontext.samePublished).trans (quietRun_one hsecond hcontext'.samePublished), ?_⟩
  exact
    { context := hcontext.trans hcontext'
      counters := ⟨rfl, rfl⟩
      mode := rfl
      cnt := rfl
      bytes := by
        rw [startFrame_buf, Vector.toList_set, Vector.toList_set]
        exact take_two_set_set _ (by simp) _ _
      arrivals := rfl }

/-- After a header mismatch the scan finds the header of the next frame. -/
theorem receive_frame_after_mismatch {w : State} {b : Byte} {ch : Vector Chan 14} (hseen : w.seenReset = true)
    (harrivals : w.arrivals = byteArrivals (frameBytes w.h0 w.h1 w.be ch)) :
    ∃ v t, QuietRun 31 (headerMismatch (storeByte b w)) v ∧ step v = .next t ∧
      PublishedFrom (headerMismatch (storeByte b w)) ch t ∧ SameErrorCounters (headerMismatch (storeByte b w)) t := by
  obtain ⟨u, hheader, hu⟩ := holding_header_of_scan (s := headerMismatch (storeByte b w)) hseen rfl harrivals
  obtain ⟨v, t, hrest, hstep, ht⟩ := hu.receive_frame hseen (ch := ch) rfl (Nat.le_of_ble_eq_true rfl)
  exact ⟨v, t, hheader.trans hrest, hstep, ht⟩

/-- All 32 bytes of a first frame: in silence up to the last, which completes the buffer with the very frame. -/
theorem receive_first_frame {s : State} (frame : Vector Byte 32) (rest : List Byte) (hseen : s.seenReset = true)
    (hmode : s.mode = .aligned) (hcnt : s.cnt = 0) :
    ∃ v w b, QuietRun 31 (s.receiving (frame.toList ++ rest)) v ∧ step v = .next (rxByte b w) ∧ lastByteDue w ∧
      w.frameWith b = frame ∧ SameContext s w ∧ SameContext v w ∧ SameErrorCounters s w ∧
      w.arrivals = byteArrivals rest := by
  obtain ⟨held, b, hbytes⟩ : ∃ held b, frame.toList = held ++ [b] := by
    obtain hnil | ⟨held, b, hconcat⟩ := frame.toList.eq_nil_or_concat
    · exact absurd (congrArg List.length hnil) (by simp)
    · exact ⟨held, b, hconcat.trans List.concat_eq_append⟩
  have hlength : held.length = 31 := by
    have hall := congrArg List.length hbytes
    rw [Vector.length_toList, List.length_append, List.length_singleton] at hall
    omega
  have hstart := holding_receiving hmode hcnt (frame.toList ++ rest)
  rw [hbytes, List.append_assoc, List.singleton_append] at hstart ⊢
  obtain ⟨v, hrun, hv⟩ := hstart.collect held hseen (by rw [hlength]; decide)
  rw [List.nil_append] at hv
  obtain ⟨hstep, hlast, hframe⟩ := hv.last hseen hlength
  rw [hlength] at hrun
  exact ⟨v, v.awaiting rest, b, hrun, hstep, hlast, Vector.toList_inj.mp (hframe.trans hbytes.symm),
    hv.context.trans (sameContext_awaiting v rest), sameContext_awaiting v rest, hv.counters, rfl⟩

/-- A corrupted frame leaves the receiver ready for the next frame, which it publishes; the counter of the corruption has moved
in between. -/
theorem valid_frame_after_corrupted {s : State} (bad : Vector Byte 32) (ch : Vector Chan 14) (hseen : s.seenReset = true)
    (hmode : s.mode = .aligned) (hcnt : s.cnt = 0) (hheader : s.hdrEn = true)
    (hbad : (bad[0] ≠ s.h0 ∨ bad[1] ≠ s.h1) ∨ checksumOk s.be bad = false) :
    ∃ v t, QuietRun 63 (s.receiving (bad.toList ++ frameBytes s.h0 s.h1 s.be ch)) v ∧ step v = .next t ∧
      PublishedFrom s ch t ∧
      ((bad[0] ≠ s.h0 ∨ bad[1] ≠ s.h1) → t.resyncs = s.resyncs + 1 ∧ t.csumErrs = s.csumErrs) ∧
      (¬(bad[0] ≠ s.h0 ∨ bad[1] ≠ s.h1) → t.csumErrs = s.csumErrs + 1 ∧ t.resyncs = s.resyncs) := by
  obtain ⟨u, w, b, hfirst, hstep, hlast, hframe, hcontext, htaken, ⟨hcsum, hresyncs⟩, harrivals⟩ :=
    receive_first_frame bad (frameBytes s.h0 s.h1 s.be ch) hseen hmode hcnt
  rw [← hcontext.h0_eq, ← hcontext.h1_eq, ← hcontext.be_eq] at harrivals
  have hseen' : w.seenReset = true := hcontext.seenReset.trans hseen
  by_cases hmismatch : bad[0] ≠ s.h0 ∨ bad[1] ≠ s.h1
  · have hfails : ¬(w.hdrEn = true → (w.frameWith b)[0] = w.h0 ∧ (w.frameWith b)[1] = w.h1) := by
      rw [hframe, hcontext.hdrEn_eq, hcontext.h0_eq, hcontext.h1_eq]
      exact fun hpass => not_and_or.mpr hmismatch (hpass hheader)
    rw [rxByte_headerMismatch hlast hfails] at hstep
    obtain ⟨v, t, hrest, hpublish, ht, hcsum', hresyncs'⟩ := receive_frame_after_mismatch (b := b) hseen' harrivals
    have hmid := sameContext_headerMismatch b w
    exact ⟨v, t, (hfirst.trans (quietRun_one hstep (htaken.trans hmid).samePublished)).trans hrest, hpublish,
      (hcontext.trans hmid).publishedFrom ht,
      fun _ => ⟨hresyncs'.trans (congrArg countUp hresyncs), hcsum'.trans hcsum⟩, fun hnot => absurd hmismatch hnot⟩
  · have hpasses : w.hdrEn = true → (w.frameWith b)[0] = w.h0 ∧ (w.frameWith b)[1] = w.h1 := by
      rw [hframe, hcontext.h0_eq, hcontext.h1_eq]
      exact fun _ => by simpa using hmismatch
    have hsum : checksumOk w.be (w.frameWith b) = false := by
      rw [hframe, hcontext.be_eq]
      exact hbad.resolve_left hmismatch
    rw [rxByte_checksumFail hlast hpasses hsum] at hstep
    obtain ⟨v, t, hrest, hpublish, ht, hcsum', hresyncs'⟩ := receive_frame_after_badChecksum (b := b) hseen' hlast harrivals
    have hmid := sameContext_checksumFail b w
    exact ⟨v, t, (hfirst.trans (quietRun_one hstep (htaken.trans hmid).samePublished)).trans hrest, hpublish,
      (hcontext.trans hmid).publishedFrom ht, fun hyes => absurd hyes hmismatch,
      fun _ => ⟨hcsum'.trans (congrArg countUp hcsum), hresyncs'.trans hresyncs⟩⟩

/-- Settles O34: the run is silent for 63 steps, and its last step publishes. -/
theorem validFrameAfterCorruptedIsPublished : Obligations.ValidFrameAfterCorruptedIsPublished := by
  intro s bad ch hseen hmode hcnt hheader badHeader hbad input
  obtain ⟨v, t, hrun, hstep, ht, hmismatch, hchecksum⟩ :=
    valid_frame_after_corrupted bad ch hseen hmode hcnt hheader hbad
  obtain ⟨hsetpoints, henable⟩ := ht.setpoints_enable
  exact ⟨⟨t, hrun.succ hstep, ht.channels, ht.framesOk, ht.mode, ht.cnt, hsetpoints, henable, hmismatch, hchecksum⟩,
    fun k hk u hu => hrun.2 k (Nat.le_of_lt_succ hk) u hu⟩

end Sys2Proof.Machine
end
